-- ==== Sys2Proof/Word.lean ====
section
/-! DEFINITION. The word types. -/

namespace Sys2Proof

/-- A byte of memory (20_memory.md R70). -/
abbrev Byte := BitVec 8
/-- An instruction word (30_encoding.md R120). -/
abbrev InstWord := BitVec 32
/-- A container for a value of XLEN bits, XLEN = 32 or 64; at XLEN = 32 the upper half is zero (log entry 15). -/
abbrev Word := BitVec 64

end Sys2Proof
end

