-- ==== Sys2Proof/Config.lean ====
section
/-! DEFINITION. What an implementation fixes (the open parameters of 00_scope.md R5) and the free values: the two draws of
00_scope.md R8 that the spec leaves undetermined at each use. -/

namespace Sys2Proof

/-- The register and address width XLEN, 32 or 64 (00_scope.md R5, 92_eei_decisions.md D2; log entry 1). -/
inductive XLen where
  | rv32
  | rv64
  deriving DecidableEq, Repr

/-- XLEN as a number of bits. -/
def XLen.bits : XLen → Nat
  | .rv32 => 32
  | .rv64 => 64

/-- The parameters a run fixes before it starts (00_scope.md R5). NUM_HARTS is 1 (log entry 2). -/
structure Params where
  /-- XLEN. -/
  xlen : XLen
  /-- MEM_BASE, the first byte address of main memory (20_memory.md R71). -/
  memBase : Nat
  /-- MEM_SIZE, the number of bytes of main memory (20_memory.md R71). -/
  memSize : Nat
  /-- RESET_PC (10_state.md R50). -/
  resetPc : Nat
  /-- RES_GRAIN, the size in bytes of a reservation set (46_atomics.md R396). -/
  resGrain : Nat
  deriving DecidableEq, Repr

/-- The domains of the parameters, as the table of 92_eei_decisions.md gives them (R5, R71, R396, R50). -/
def Params.legal (p : Params) : Bool :=
  p.memBase % 8 == 0 && p.memSize % 8 == 0 && decide (0 < p.memSize) &&
  decide (p.memBase + p.memSize ≤ 2 ^ p.xlen.bits) &&
  decide (8 ≤ p.resGrain) && p.resGrain == 2 ^ p.resGrain.log2 &&
  p.resetPc % 4 == 0 && decide (p.memBase ≤ p.resetPc) && decide (p.resetPc + 4 ≤ p.memBase + p.memSize)

/-- The parameters State.reset uses. RES_GRAIN is the spec's reference value; the others are DESIGN CHOICES, unsafe (log
entries 1, 3, 4, 5): XLEN = 64, all 2^64 bytes of the address space are memory, RESET_PC = 0x1000. -/
def Params.reference : Params :=
  { xlen := .rv64, memBase := 0, memSize := 2 ^ 64, resetPc := 0x1000, resGrain := 8 }

/-- The card's own memory figures at XLEN = 32: 2^30 words from address 0 (20_memory.md R71). -/
def Params.card32 : Params :=
  { xlen := .rv32, memBase := 0, memSize := 2 ^ 32, resetPc := 0x1000, resGrain := 8 }

/-- A FREE VALUE: whether the eligible store-conditional that takes draw number n succeeds (46_atomics.md R373, R395;
93_implementation_defined.md U10; log entry 10). It has no body: nothing can be proved of it. -/
opaque Config.scSucceeds : (n : Nat) → Bool

/-- A FREE VALUE: which of its admissible values byte number i of the fetch that takes draw number n returns, when that byte
was stored to since the last fence.i (20_memory.md R101; U12; log entry 11). It has no body. -/
opaque Config.fetchPick : (n i : Nat) → Nat

end Sys2Proof
end

