-- ==== Sys2Proof/Syntax.lean ====
section
/-! DEFINITION. The instructions, one constructor for each mnemonic of spec/opcode_table.json (30_encoding.md R138), with the
operand fields of its format (R121 to R128). Every bit of the word that is not fixed is an operand here, the ignored fields of
`fence` and `fence.i` (R137) included, so that an instruction and its word determine each other. -/

namespace Sys2Proof

/-- A 5-bit field that names an x register (30_encoding.md R128). -/
abbrev XReg := BitVec 5
/-- A 5-bit field that names an f register (30_encoding.md R128). -/
abbrev FReg := BitVec 5
/-- The 12 bits of an I- or S-immediate (30_encoding.md R122, R123). -/
abbrev Imm12 := BitVec 12
/-- The 20 bits imm[31:12] of a U-immediate (30_encoding.md R125). -/
abbrev Imm20 := BitVec 20
/-- A branch offset in bytes, bit 0 of which is always 0 (30_encoding.md R124). -/
abbrev Off13 := BitVec 13
/-- A jump offset in bytes, bit 0 of which is always 0 (30_encoding.md R126). -/
abbrev Off21 := BitVec 21
/-- The shift amount of slliw, srliw, sraiw (30_encoding.md R127). -/
abbrev Shamt5 := BitVec 5
/-- The shift amount of slli, srli, srai: 6 bits at XLEN = 64, below 32 at XLEN = 32 (30_encoding.md R127). -/
abbrev Shamt6 := BitVec 6
/-- The address of a control and status register (30_encoding.md R127). -/
abbrev CsrAddr := BitVec 12
/-- The constant of an immediate CSR instruction (30_encoding.md R127). -/
abbrev Uimm5 := BitVec 5
/-- The rounding-mode field (47_fp_single.md R404). -/
abbrev RmField := BitVec 3
/-- The fields fm, pred, succ of `fence` (44_memory_order_environment.md R320). -/
abbrev Nibble := BitVec 4

/-- The instructions of spec/opcode_table.json. Each docstring names the mnemonic and its rule. -/
inductive Instr where
  -- Arithmetic and set less than (40_arithmetic_compare.md)
  /-- `addi`, R203. -/
  | addi (rd rs1 : XReg) (imm : Imm12)
  /-- `slti`, R205. -/
  | slti (rd rs1 : XReg) (imm : Imm12)
  /-- `sltiu`, R207. -/
  | sltiu (rd rs1 : XReg) (imm : Imm12)
  /-- `add`, R201. -/
  | add (rd rs1 rs2 : XReg)
  /-- `sub`, R202. -/
  | sub (rd rs1 rs2 : XReg)
  /-- `slt`, R204. -/
  | slt (rd rs1 rs2 : XReg)
  /-- `sltu`, R206. -/
  | sltu (rd rs1 rs2 : XReg)
  /-- `addiw`, R208. -/
  | addiw (rd rs1 : XReg) (imm : Imm12)
  /-- `addw`, R209. -/
  | addw (rd rs1 rs2 : XReg)
  /-- `subw`, R210. -/
  | subw (rd rs1 rs2 : XReg)
  -- Data transfer (41_data_transfer.md)
  /-- `lui`, R244. -/
  | lui (rd : XReg) (imm : Imm20)
  /-- `auipc`, R245. -/
  | auipc (rd : XReg) (imm : Imm20)
  /-- `lb`, R239. -/
  | lb (rd rs1 : XReg) (imm : Imm12)
  /-- `lh`, R236. -/
  | lh (rd rs1 : XReg) (imm : Imm12)
  /-- `lw`, R233. -/
  | lw (rd rs1 : XReg) (imm : Imm12)
  /-- `lbu`, R240. -/
  | lbu (rd rs1 : XReg) (imm : Imm12)
  /-- `lhu`, R237. -/
  | lhu (rd rs1 : XReg) (imm : Imm12)
  /-- `lwu`, R234. -/
  | lwu (rd rs1 : XReg) (imm : Imm12)
  /-- `ld`, R242. -/
  | ld (rd rs1 : XReg) (imm : Imm12)
  /-- `sb`, R241. -/
  | sb (rs1 rs2 : XReg) (imm : Imm12)
  /-- `sh`, R238. -/
  | sh (rs1 rs2 : XReg) (imm : Imm12)
  /-- `sw`, R235. -/
  | sw (rs1 rs2 : XReg) (imm : Imm12)
  /-- `sd`, R243. -/
  | sd (rs1 rs2 : XReg) (imm : Imm12)
  -- Logical and shift (42_logical_shift.md)
  /-- `xori`, R265. -/
  | xori (rd rs1 : XReg) (imm : Imm12)
  /-- `ori`, R264. -/
  | ori (rd rs1 : XReg) (imm : Imm12)
  /-- `andi`, R263. -/
  | andi (rd rs1 : XReg) (imm : Imm12)
  /-- `slli`, R269. -/
  | slli (rd rs1 : XReg) (shamt : Shamt6)
  /-- `srli`, R270. -/
  | srli (rd rs1 : XReg) (shamt : Shamt6)
  /-- `srai`, R271. -/
  | srai (rd rs1 : XReg) (shamt : Shamt6)
  /-- `sll`, R266. -/
  | sll (rd rs1 rs2 : XReg)
  /-- `xor`, R262. -/
  | xor (rd rs1 rs2 : XReg)
  /-- `srl`, R267. -/
  | srl (rd rs1 rs2 : XReg)
  /-- `sra`, R268. -/
  | sra (rd rs1 rs2 : XReg)
  /-- `or`, R261. -/
  | or (rd rs1 rs2 : XReg)
  /-- `and`, R260. -/
  | and (rd rs1 rs2 : XReg)
  /-- `slliw`, R275. -/
  | slliw (rd rs1 : XReg) (shamt : Shamt5)
  /-- `srliw`, R276. -/
  | srliw (rd rs1 : XReg) (shamt : Shamt5)
  /-- `sraiw`, R277. -/
  | sraiw (rd rs1 : XReg) (shamt : Shamt5)
  /-- `sllw`, R272. -/
  | sllw (rd rs1 rs2 : XReg)
  /-- `srlw`, R273. -/
  | srlw (rd rs1 rs2 : XReg)
  /-- `sraw`, R274. -/
  | sraw (rd rs1 rs2 : XReg)
  -- Control transfer (43_control_transfer.md)
  /-- `jal`, R307. -/
  | jal (rd : XReg) (off : Off21)
  /-- `jalr`, R308. -/
  | jalr (rd rs1 : XReg) (imm : Imm12)
  /-- `beq`, R301. -/
  | beq (rs1 rs2 : XReg) (off : Off13)
  /-- `bne`, R302. -/
  | bne (rs1 rs2 : XReg) (off : Off13)
  /-- `blt`, R303. -/
  | blt (rs1 rs2 : XReg) (off : Off13)
  /-- `bge`, R304. -/
  | bge (rs1 rs2 : XReg) (off : Off13)
  /-- `bltu`, R305. -/
  | bltu (rs1 rs2 : XReg) (off : Off13)
  /-- `bgeu`, R306. -/
  | bgeu (rs1 rs2 : XReg) (off : Off13)
  -- Memory order and environment (44_memory_order_environment.md)
  /-- `fence`, R320. -/
  | fence (fm pred succ : Nibble) (rs1 rd : XReg)
  /-- `fence.i`, R322. -/
  | fenceI (imm : Imm12) (rs1 rd : XReg)
  /-- `ecall`, R323. -/
  | ecall
  /-- `ebreak`, R324. -/
  | ebreak
  -- Multiply and divide (45_muldiv.md)
  /-- `mul`, R341. -/
  | mul (rd rs1 rs2 : XReg)
  /-- `mulh`, R342. -/
  | mulh (rd rs1 rs2 : XReg)
  /-- `mulhsu`, R343. -/
  | mulhsu (rd rs1 rs2 : XReg)
  /-- `mulhu`, R344. -/
  | mulhu (rd rs1 rs2 : XReg)
  /-- `div`, R345. -/
  | div (rd rs1 rs2 : XReg)
  /-- `divu`, R346. -/
  | divu (rd rs1 rs2 : XReg)
  /-- `rem`, R347. -/
  | rem (rd rs1 rs2 : XReg)
  /-- `remu`, R348. -/
  | remu (rd rs1 rs2 : XReg)
  /-- `mulw`, R349. -/
  | mulw (rd rs1 rs2 : XReg)
  /-- `divw`, R350. -/
  | divw (rd rs1 rs2 : XReg)
  /-- `divuw`, R351. -/
  | divuw (rd rs1 rs2 : XReg)
  /-- `remw`, R352. -/
  | remw (rd rs1 rs2 : XReg)
  /-- `remuw`, R353. -/
  | remuw (rd rs1 rs2 : XReg)
  -- Atomics (46_atomics.md)
  /-- `lr.w`, R371. -/
  | lrW (rd rs1 : XReg) (aq rl : Bool)
  /-- `lr.d`, R372. -/
  | lrD (rd rs1 : XReg) (aq rl : Bool)
  /-- `sc.w`, R373. -/
  | scW (rd rs1 rs2 : XReg) (aq rl : Bool)
  /-- `sc.d`, R374. -/
  | scD (rd rs1 rs2 : XReg) (aq rl : Bool)
  /-- `amoswap.w`, R376. -/
  | amoswapW (rd rs1 rs2 : XReg) (aq rl : Bool)
  /-- `amoswap.d`, R377. -/
  | amoswapD (rd rs1 rs2 : XReg) (aq rl : Bool)
  /-- `amoadd.w`, R378. -/
  | amoaddW (rd rs1 rs2 : XReg) (aq rl : Bool)
  /-- `amoadd.d`, R379. -/
  | amoaddD (rd rs1 rs2 : XReg) (aq rl : Bool)
  /-- `amoxor.w`, R384. -/
  | amoxorW (rd rs1 rs2 : XReg) (aq rl : Bool)
  /-- `amoxor.d`, R385. -/
  | amoxorD (rd rs1 rs2 : XReg) (aq rl : Bool)
  /-- `amoand.w`, R380. -/
  | amoandW (rd rs1 rs2 : XReg) (aq rl : Bool)
  /-- `amoand.d`, R381. -/
  | amoandD (rd rs1 rs2 : XReg) (aq rl : Bool)
  /-- `amoor.w`, R382. -/
  | amoorW (rd rs1 rs2 : XReg) (aq rl : Bool)
  /-- `amoor.d`, R383. -/
  | amoorD (rd rs1 rs2 : XReg) (aq rl : Bool)
  /-- `amomin.w`, R386. -/
  | amominW (rd rs1 rs2 : XReg) (aq rl : Bool)
  /-- `amomin.d`, R387. -/
  | amominD (rd rs1 rs2 : XReg) (aq rl : Bool)
  /-- `amomax.w`, R388. -/
  | amomaxW (rd rs1 rs2 : XReg) (aq rl : Bool)
  /-- `amomax.d`, R389. -/
  | amomaxD (rd rs1 rs2 : XReg) (aq rl : Bool)
  /-- `amominu.w`, R390. -/
  | amominuW (rd rs1 rs2 : XReg) (aq rl : Bool)
  /-- `amominu.d`, R391. -/
  | amominuD (rd rs1 rs2 : XReg) (aq rl : Bool)
  /-- `amomaxu.w`, R392. -/
  | amomaxuW (rd rs1 rs2 : XReg) (aq rl : Bool)
  /-- `amomaxu.d`, R393. -/
  | amomaxuD (rd rs1 rs2 : XReg) (aq rl : Bool)
  -- Single precision (47_fp_single.md)
  /-- `flw`, R420. -/
  | flw (rd : FReg) (rs1 : XReg) (imm : Imm12)
  /-- `fsw`, R421. -/
  | fsw (rs1 : XReg) (rs2 : FReg) (imm : Imm12)
  /-- `fmadd.s`, R427. -/
  | fmaddS (rd rs1 rs2 rs3 : FReg) (rm : RmField)
  /-- `fmsub.s`, R428. -/
  | fmsubS (rd rs1 rs2 rs3 : FReg) (rm : RmField)
  /-- `fnmsub.s`, R429. -/
  | fnmsubS (rd rs1 rs2 rs3 : FReg) (rm : RmField)
  /-- `fnmadd.s`, R430. -/
  | fnmaddS (rd rs1 rs2 rs3 : FReg) (rm : RmField)
  /-- `fadd.s`, R422. -/
  | faddS (rd rs1 rs2 : FReg) (rm : RmField)
  /-- `fsub.s`, R423. -/
  | fsubS (rd rs1 rs2 : FReg) (rm : RmField)
  /-- `fmul.s`, R424. -/
  | fmulS (rd rs1 rs2 : FReg) (rm : RmField)
  /-- `fdiv.s`, R425. -/
  | fdivS (rd rs1 rs2 : FReg) (rm : RmField)
  /-- `fsqrt.s`, R426. -/
  | fsqrtS (rd rs1 : FReg) (rm : RmField)
  /-- `fsgnj.s`, R431. -/
  | fsgnjS (rd rs1 rs2 : FReg)
  /-- `fsgnjn.s`, R432. -/
  | fsgnjnS (rd rs1 rs2 : FReg)
  /-- `fsgnjx.s`, R433. -/
  | fsgnjxS (rd rs1 rs2 : FReg)
  /-- `fmin.s`, R434. -/
  | fminS (rd rs1 rs2 : FReg)
  /-- `fmax.s`, R435. -/
  | fmaxS (rd rs1 rs2 : FReg)
  /-- `fcvt.w.s`, R440. -/
  | fcvtWS (rd : XReg) (rs1 : FReg) (rm : RmField)
  /-- `fcvt.wu.s`, R441. -/
  | fcvtWuS (rd : XReg) (rs1 : FReg) (rm : RmField)
  /-- `fmv.x.w`, R448. -/
  | fmvXW (rd : XReg) (rs1 : FReg)
  /-- `feq.s`, R436. -/
  | feqS (rd : XReg) (rs1 rs2 : FReg)
  /-- `flt.s`, R437. -/
  | fltS (rd : XReg) (rs1 rs2 : FReg)
  /-- `fle.s`, R438. -/
  | fleS (rd : XReg) (rs1 rs2 : FReg)
  /-- `fclass.s`, R439. -/
  | fclassS (rd : XReg) (rs1 : FReg)
  /-- `fcvt.s.w`, R444. -/
  | fcvtSW (rd : FReg) (rs1 : XReg) (rm : RmField)
  /-- `fcvt.s.wu`, R445. -/
  | fcvtSWu (rd : FReg) (rs1 : XReg) (rm : RmField)
  /-- `fmv.w.x`, R449. -/
  | fmvWX (rd : FReg) (rs1 : XReg)
  /-- `fcvt.l.s`, R442. -/
  | fcvtLS (rd : XReg) (rs1 : FReg) (rm : RmField)
  /-- `fcvt.lu.s`, R443. -/
  | fcvtLuS (rd : XReg) (rs1 : FReg) (rm : RmField)
  /-- `fcvt.s.l`, R446. -/
  | fcvtSL (rd : FReg) (rs1 : XReg) (rm : RmField)
  /-- `fcvt.s.lu`, R447. -/
  | fcvtSLu (rd : FReg) (rs1 : XReg) (rm : RmField)
  -- Double precision (48_fp_double.md)
  /-- `fld`, R460. -/
  | fld (rd : FReg) (rs1 : XReg) (imm : Imm12)
  /-- `fsd`, R461. -/
  | fsd (rs1 : XReg) (rs2 : FReg) (imm : Imm12)
  /-- `fmadd.d`, R467. -/
  | fmaddD (rd rs1 rs2 rs3 : FReg) (rm : RmField)
  /-- `fmsub.d`, R468. -/
  | fmsubD (rd rs1 rs2 rs3 : FReg) (rm : RmField)
  /-- `fnmsub.d`, R469. -/
  | fnmsubD (rd rs1 rs2 rs3 : FReg) (rm : RmField)
  /-- `fnmadd.d`, R470. -/
  | fnmaddD (rd rs1 rs2 rs3 : FReg) (rm : RmField)
  /-- `fadd.d`, R462. -/
  | faddD (rd rs1 rs2 : FReg) (rm : RmField)
  /-- `fsub.d`, R463. -/
  | fsubD (rd rs1 rs2 : FReg) (rm : RmField)
  /-- `fmul.d`, R464. -/
  | fmulD (rd rs1 rs2 : FReg) (rm : RmField)
  /-- `fdiv.d`, R465. -/
  | fdivD (rd rs1 rs2 : FReg) (rm : RmField)
  /-- `fsqrt.d`, R466. -/
  | fsqrtD (rd rs1 : FReg) (rm : RmField)
  /-- `fsgnj.d`, R471. -/
  | fsgnjD (rd rs1 rs2 : FReg)
  /-- `fsgnjn.d`, R472. -/
  | fsgnjnD (rd rs1 rs2 : FReg)
  /-- `fsgnjx.d`, R473. -/
  | fsgnjxD (rd rs1 rs2 : FReg)
  /-- `fmin.d`, R474. -/
  | fminD (rd rs1 rs2 : FReg)
  /-- `fmax.d`, R475. -/
  | fmaxD (rd rs1 rs2 : FReg)
  /-- `fcvt.s.d`, R488. -/
  | fcvtSD (rd rs1 : FReg) (rm : RmField)
  /-- `fcvt.d.s`, R489. -/
  | fcvtDS (rd rs1 : FReg) (rm : RmField)
  /-- `feq.d`, R476. -/
  | feqD (rd : XReg) (rs1 rs2 : FReg)
  /-- `flt.d`, R477. -/
  | fltD (rd : XReg) (rs1 rs2 : FReg)
  /-- `fle.d`, R478. -/
  | fleD (rd : XReg) (rs1 rs2 : FReg)
  /-- `fclass.d`, R479. -/
  | fclassD (rd : XReg) (rs1 : FReg)
  /-- `fcvt.w.d`, R480. -/
  | fcvtWD (rd : XReg) (rs1 : FReg) (rm : RmField)
  /-- `fcvt.wu.d`, R481. -/
  | fcvtWuD (rd : XReg) (rs1 : FReg) (rm : RmField)
  /-- `fcvt.d.w`, R484. -/
  | fcvtDW (rd : FReg) (rs1 : XReg) (rm : RmField)
  /-- `fcvt.d.wu`, R485. -/
  | fcvtDWu (rd : FReg) (rs1 : XReg) (rm : RmField)
  /-- `fcvt.l.d`, R482. -/
  | fcvtLD (rd : XReg) (rs1 : FReg) (rm : RmField)
  /-- `fcvt.lu.d`, R483. -/
  | fcvtLuD (rd : XReg) (rs1 : FReg) (rm : RmField)
  /-- `fmv.x.d`, R490. -/
  | fmvXD (rd : XReg) (rs1 : FReg)
  /-- `fcvt.d.l`, R486. -/
  | fcvtDL (rd : FReg) (rs1 : XReg) (rm : RmField)
  /-- `fcvt.d.lu`, R487. -/
  | fcvtDLu (rd : FReg) (rs1 : XReg) (rm : RmField)
  /-- `fmv.d.x`, R491. -/
  | fmvDX (rd : FReg) (rs1 : XReg)
  -- Zicsr (49_zicsr.md)
  /-- `csrrw`, R521. -/
  | csrrw (rd rs1 : XReg) (csr : CsrAddr)
  /-- `csrrs`, R522. -/
  | csrrs (rd rs1 : XReg) (csr : CsrAddr)
  /-- `csrrc`, R523. -/
  | csrrc (rd rs1 : XReg) (csr : CsrAddr)
  /-- `csrrwi`, R524. -/
  | csrrwi (rd : XReg) (uimm : Uimm5) (csr : CsrAddr)
  /-- `csrrsi`, R525. -/
  | csrrsi (rd : XReg) (uimm : Uimm5) (csr : CsrAddr)
  /-- `csrrci`, R526. -/
  | csrrci (rd : XReg) (uimm : Uimm5) (csr : CsrAddr)
  deriving DecidableEq, Repr

end Sys2Proof
end

