-- ==== Sys2Proof/WellFormed.lean ====
section
/-! DEFINITION. Which terms of Instr are instructions at a given XLEN: what the types of the operands do not say already.
A reserved rounding mode and an unimplemented CSR address are well-formed words that match a row of the table; executing
them raises IllegalInstruction (30_encoding.md R133 items 4 to 6; log entry 21). -/

namespace Sys2Proof

/-- The rows of spec/opcode_table.json that exist at XLEN = 64 only (30_encoding.md R131, R138). -/
def Instr.rv64Only : Instr → Bool
  | .lwu .. | .ld .. | .sd .. | .addiw .. | .slliw .. | .srliw .. | .sraiw .. | .addw .. | .subw .. | .sllw ..
  | .srlw .. | .sraw .. | .mulw .. | .divw .. | .divuw .. | .remw .. | .remuw .. | .lrD .. | .scD .. | .amoswapD ..
  | .amoaddD .. | .amoxorD .. | .amoandD .. | .amoorD .. | .amominD .. | .amomaxD .. | .amominuD .. | .amomaxuD ..
  | .fcvtLS .. | .fcvtLuS .. | .fcvtSL .. | .fcvtSLu .. | .fcvtLD .. | .fcvtLuD .. | .fmvXD .. | .fcvtDL ..
  | .fcvtDLu .. | .fmvDX .. => true
  | .lui .. | .auipc .. | .jal .. | .jalr .. | .beq .. | .bne .. | .blt .. | .bge .. | .bltu .. | .bgeu .. | .lb ..
  | .lh .. | .lw .. | .lbu .. | .lhu .. | .sb .. | .sh .. | .sw .. | .addi .. | .slti .. | .sltiu .. | .xori ..
  | .ori .. | .andi .. | .slli .. | .srli .. | .srai .. | .add .. | .sub .. | .sll .. | .slt .. | .sltu .. | .xor ..
  | .srl .. | .sra .. | .or .. | .and .. | .fence .. | .fenceI .. | .ecall | .ebreak | .mul .. | .mulh .. | .mulhsu ..
  | .mulhu .. | .div .. | .divu .. | .rem .. | .remu .. | .lrW .. | .scW .. | .amoswapW .. | .amoaddW .. | .amoxorW ..
  | .amoandW .. | .amoorW .. | .amominW .. | .amomaxW .. | .amominuW .. | .amomaxuW .. | .flw .. | .fsw .. | .fmaddS ..
  | .fmsubS .. | .fnmsubS .. | .fnmaddS .. | .faddS .. | .fsubS .. | .fmulS .. | .fdivS .. | .fsqrtS .. | .fsgnjS ..
  | .fsgnjnS .. | .fsgnjxS .. | .fminS .. | .fmaxS .. | .fcvtWS .. | .fcvtWuS .. | .fmvXW .. | .feqS .. | .fltS ..
  | .fleS .. | .fclassS .. | .fcvtSW .. | .fcvtSWu .. | .fmvWX .. | .fld .. | .fsd .. | .fmaddD .. | .fmsubD ..
  | .fnmsubD .. | .fnmaddD .. | .faddD .. | .fsubD .. | .fmulD .. | .fdivD .. | .fsqrtD .. | .fsgnjD .. | .fsgnjnD ..
  | .fsgnjxD .. | .fminD .. | .fmaxD .. | .fcvtSD .. | .fcvtDS .. | .feqD .. | .fltD .. | .fleD .. | .fclassD ..
  | .fcvtWD .. | .fcvtWuD .. | .fcvtDW .. | .fcvtDWu .. | .csrrw .. | .csrrs .. | .csrrc .. | .csrrwi .. | .csrrsi ..
  | .csrrci .. => false

/-- The instruction exists at this XLEN (30_encoding.md R131). -/
def Instr.wfXLen (xl : XLen) (i : Instr) : Bool := !i.rv64Only || xl == .rv64

/-- The offset of a branch or of `jal` is a multiple of 2 (30_encoding.md R124, R126). -/
def Instr.wfOffset : Instr → Bool
  | .beq _ _ off | .bne _ _ off | .blt _ _ off | .bge _ _ off | .bltu _ _ off | .bgeu _ _ off => !off.getLsbD 0
  | .jal _ off => !off.getLsbD 0
  | .lwu .. | .ld .. | .sd .. | .addiw .. | .slliw .. | .srliw .. | .sraiw .. | .addw .. | .subw .. | .sllw ..
  | .srlw .. | .sraw .. | .mulw .. | .divw .. | .divuw .. | .remw .. | .remuw .. | .lrD .. | .scD .. | .amoswapD ..
  | .amoaddD .. | .amoxorD .. | .amoandD .. | .amoorD .. | .amominD .. | .amomaxD .. | .amominuD .. | .amomaxuD ..
  | .fcvtLS .. | .fcvtLuS .. | .fcvtSL .. | .fcvtSLu .. | .fcvtLD .. | .fcvtLuD .. | .fmvXD .. | .fcvtDL ..
  | .fcvtDLu .. | .fmvDX .. | .lui .. | .auipc .. | .jalr .. | .lb .. | .lh .. | .lw .. | .lbu .. | .lhu .. | .sb ..
  | .sh .. | .sw .. | .addi .. | .slti .. | .sltiu .. | .xori .. | .ori .. | .andi .. | .slli .. | .srli .. | .srai ..
  | .add .. | .sub .. | .sll .. | .slt .. | .sltu .. | .xor .. | .srl .. | .sra .. | .or .. | .and .. | .fence ..
  | .fenceI .. | .ecall | .ebreak | .mul .. | .mulh .. | .mulhsu .. | .mulhu .. | .div .. | .divu .. | .rem ..
  | .remu .. | .lrW .. | .scW .. | .amoswapW .. | .amoaddW .. | .amoxorW .. | .amoandW .. | .amoorW .. | .amominW ..
  | .amomaxW .. | .amominuW .. | .amomaxuW .. | .flw .. | .fsw .. | .fmaddS .. | .fmsubS .. | .fnmsubS .. | .fnmaddS ..
  | .faddS .. | .fsubS .. | .fmulS .. | .fdivS .. | .fsqrtS .. | .fsgnjS .. | .fsgnjnS .. | .fsgnjxS .. | .fminS ..
  | .fmaxS .. | .fcvtWS .. | .fcvtWuS .. | .fmvXW .. | .feqS .. | .fltS .. | .fleS .. | .fclassS .. | .fcvtSW ..
  | .fcvtSWu .. | .fmvWX .. | .fld .. | .fsd .. | .fmaddD .. | .fmsubD .. | .fnmsubD .. | .fnmaddD .. | .faddD ..
  | .fsubD .. | .fmulD .. | .fdivD .. | .fsqrtD .. | .fsgnjD .. | .fsgnjnD .. | .fsgnjxD .. | .fminD .. | .fmaxD ..
  | .fcvtSD .. | .fcvtDS .. | .feqD .. | .fltD .. | .fleD .. | .fclassD .. | .fcvtWD .. | .fcvtWuD .. | .fcvtDW ..
  | .fcvtDWu .. | .csrrw .. | .csrrs .. | .csrrc .. | .csrrwi .. | .csrrsi .. | .csrrci .. => true

/-- The shift amount of `slli`, `srli`, `srai` is below XLEN (30_encoding.md R127, R133 item 1). -/
def Instr.wfShamt (xl : XLen) : Instr → Bool
  | .slli _ _ shamt | .srli _ _ shamt | .srai _ _ shamt => decide (shamt.toNat < xl.bits)
  | .lwu .. | .ld .. | .sd .. | .addiw .. | .slliw .. | .srliw .. | .sraiw .. | .addw .. | .subw .. | .sllw ..
  | .srlw .. | .sraw .. | .mulw .. | .divw .. | .divuw .. | .remw .. | .remuw .. | .lrD .. | .scD .. | .amoswapD ..
  | .amoaddD .. | .amoxorD .. | .amoandD .. | .amoorD .. | .amominD .. | .amomaxD .. | .amominuD .. | .amomaxuD ..
  | .fcvtLS .. | .fcvtLuS .. | .fcvtSL .. | .fcvtSLu .. | .fcvtLD .. | .fcvtLuD .. | .fmvXD .. | .fcvtDL ..
  | .fcvtDLu .. | .fmvDX .. | .lui .. | .auipc .. | .jal .. | .jalr .. | .beq .. | .bne .. | .blt .. | .bge ..
  | .bltu .. | .bgeu .. | .lb .. | .lh .. | .lw .. | .lbu .. | .lhu .. | .sb .. | .sh .. | .sw .. | .addi .. | .slti ..
  | .sltiu .. | .xori .. | .ori .. | .andi .. | .add .. | .sub .. | .sll .. | .slt .. | .sltu .. | .xor .. | .srl ..
  | .sra .. | .or .. | .and .. | .fence .. | .fenceI .. | .ecall | .ebreak | .mul .. | .mulh .. | .mulhsu ..
  | .mulhu .. | .div .. | .divu .. | .rem .. | .remu .. | .lrW .. | .scW .. | .amoswapW .. | .amoaddW .. | .amoxorW ..
  | .amoandW .. | .amoorW .. | .amominW .. | .amomaxW .. | .amominuW .. | .amomaxuW .. | .flw .. | .fsw .. | .fmaddS ..
  | .fmsubS .. | .fnmsubS .. | .fnmaddS .. | .faddS .. | .fsubS .. | .fmulS .. | .fdivS .. | .fsqrtS .. | .fsgnjS ..
  | .fsgnjnS .. | .fsgnjxS .. | .fminS .. | .fmaxS .. | .fcvtWS .. | .fcvtWuS .. | .fmvXW .. | .feqS .. | .fltS ..
  | .fleS .. | .fclassS .. | .fcvtSW .. | .fcvtSWu .. | .fmvWX .. | .fld .. | .fsd .. | .fmaddD .. | .fmsubD ..
  | .fnmsubD .. | .fnmaddD .. | .faddD .. | .fsubD .. | .fmulD .. | .fdivD .. | .fsqrtD .. | .fsgnjD .. | .fsgnjnD ..
  | .fsgnjxD .. | .fminD .. | .fmaxD .. | .fcvtSD .. | .fcvtDS .. | .feqD .. | .fltD .. | .fleD .. | .fclassD ..
  | .fcvtWD .. | .fcvtWuD .. | .fcvtDW .. | .fcvtDWu .. | .csrrw .. | .csrrs .. | .csrrc .. | .csrrwi .. | .csrrsi ..
  | .csrrci .. => true

/-- The instruction has an encoding at this XLEN. -/
def Instr.wf (xl : XLen) (i : Instr) : Bool := i.wfXLen xl && i.wfOffset && i.wfShamt xl

end Sys2Proof
end

