-- ==== Sys2Proof/Decode.lean ====
section
/-! DEFINITION. Decoding and encoding (30_encoding.md). The decoder is the table of R138, searched as R131 says: the instruction
is the row whose XLEN list holds the current XLEN and whose mask and match fit the word. The encoder is written from the
formats of R121. -/

namespace Sys2Proof

/-! ### Fields of a word (30_encoding.md R121 to R127) -/

/-- rd = inst[11:7]. -/
def fRd (w : InstWord) : BitVec 5 := w.extractLsb' 7 5
/-- rs1 = inst[19:15], also uimm (R127). -/
def fRs1 (w : InstWord) : BitVec 5 := w.extractLsb' 15 5
/-- rs2 = inst[24:20], also the 5-bit shamt (R127). -/
def fRs2 (w : InstWord) : BitVec 5 := w.extractLsb' 20 5
/-- rs3 = inst[31:27] (format R4). -/
def fRs3 (w : InstWord) : BitVec 5 := w.extractLsb' 27 5
/-- funct3 = inst[14:12], also rm (formats R-rm, R-rm-1src, R4). -/
def fFunct3 (w : InstWord) : BitVec 3 := w.extractLsb' 12 3
/-- aq = inst[26] (format R-amo). -/
def fAq (w : InstWord) : Bool := w.getLsbD 26
/-- rl = inst[25] (format R-amo). -/
def fRl (w : InstWord) : Bool := w.getLsbD 25
/-- fm = inst[31:28] (format I-fence). -/
def fFm (w : InstWord) : BitVec 4 := w.extractLsb' 28 4
/-- pred = inst[27:24] (format I-fence). -/
def fPred (w : InstWord) : BitVec 4 := w.extractLsb' 24 4
/-- succ = inst[23:20] (format I-fence). -/
def fSucc (w : InstWord) : BitVec 4 := w.extractLsb' 20 4
/-- The 12 bits of an I-immediate, inst[31:20] (R122), also the CSR address (R127). -/
def fImmI (w : InstWord) : BitVec 12 := w.extractLsb' 20 12
/-- The 12 bits of an S-immediate, inst[31:25] then inst[11:7] (R123). -/
def fImmS (w : InstWord) : BitVec 12 := w.extractLsb' 25 7 ++ w.extractLsb' 7 5
/-- A branch offset: inst[31], inst[7], inst[30:25], inst[11:8], then a zero bit (R124). -/
def fOffB (w : InstWord) : BitVec 13 :=
  w.extractLsb' 31 1 ++ w.extractLsb' 7 1 ++ w.extractLsb' 25 6 ++ w.extractLsb' 8 4 ++ 0#1
/-- The 20 bits imm[31:12] of a U-immediate, inst[31:12] (R125). -/
def fImmU (w : InstWord) : BitVec 20 := w.extractLsb' 12 20
/-- A jump offset: inst[31], inst[19:12], inst[20], inst[30:21], then a zero bit (R126). -/
def fOffJ (w : InstWord) : BitVec 21 :=
  w.extractLsb' 31 1 ++ w.extractLsb' 12 8 ++ w.extractLsb' 20 1 ++ w.extractLsb' 21 10 ++ 0#1
/-- The shamt of slli, srli, srai at XLEN = 32, inst[24:20] (R127, format I-shamt5). -/
def fShamt5 (w : InstWord) : BitVec 6 := (w.extractLsb' 20 5).setWidth 6
/-- The shamt of slli, srli, srai at XLEN = 64, inst[25:20] (R127, format I-shamt6). -/
def fShamt6 (w : InstWord) : BitVec 6 := w.extractLsb' 20 6

/-! ### The table (30_encoding.md R138) -/

/-- The XLEN column of a row. -/
inductive RowXLen where
  | both
  | only32
  | only64
  deriving DecidableEq, Repr

/-- The row applies at this XLEN (R131). -/
def RowXLen.admits : RowXLen → XLen → Bool
  | .both, _ => true
  | .only32, xl => xl == .rv32
  | .only64, xl => xl == .rv64

/-- A row of the opcode table: its mask, its match, its XLEN list, and the instruction its fields give. -/
structure Row where
  mask : InstWord
  pattern : InstWord
  xlens : RowXLen
  build : InstWord → Instr

/-- The row is the instruction of the word at this XLEN (R131). -/
def Row.fits (r : Row) (xl : XLen) (w : InstWord) : Bool := r.xlens.admits xl && w &&& r.mask == r.pattern

/-- Arithmetic and set less than (40_arithmetic_compare.md): its rows of R138. -/
def rowsArith : List Row := [
  ⟨0x0000707f, 0x00000013, .both, fun w => .addi (fRd w) (fRs1 w) (fImmI w)⟩,
  ⟨0x0000707f, 0x00002013, .both, fun w => .slti (fRd w) (fRs1 w) (fImmI w)⟩,
  ⟨0x0000707f, 0x00003013, .both, fun w => .sltiu (fRd w) (fRs1 w) (fImmI w)⟩,
  ⟨0xfe00707f, 0x00000033, .both, fun w => .add (fRd w) (fRs1 w) (fRs2 w)⟩,
  ⟨0xfe00707f, 0x40000033, .both, fun w => .sub (fRd w) (fRs1 w) (fRs2 w)⟩,
  ⟨0xfe00707f, 0x00002033, .both, fun w => .slt (fRd w) (fRs1 w) (fRs2 w)⟩,
  ⟨0xfe00707f, 0x00003033, .both, fun w => .sltu (fRd w) (fRs1 w) (fRs2 w)⟩,
  ⟨0x0000707f, 0x0000001b, .only64, fun w => .addiw (fRd w) (fRs1 w) (fImmI w)⟩,
  ⟨0xfe00707f, 0x0000003b, .only64, fun w => .addw (fRd w) (fRs1 w) (fRs2 w)⟩,
  ⟨0xfe00707f, 0x4000003b, .only64, fun w => .subw (fRd w) (fRs1 w) (fRs2 w)⟩]

/-- Data transfer (41_data_transfer.md): its rows of R138. -/
def rowsTransfer : List Row := [
  ⟨0x0000007f, 0x00000037, .both, fun w => .lui (fRd w) (fImmU w)⟩,
  ⟨0x0000007f, 0x00000017, .both, fun w => .auipc (fRd w) (fImmU w)⟩,
  ⟨0x0000707f, 0x00000003, .both, fun w => .lb (fRd w) (fRs1 w) (fImmI w)⟩,
  ⟨0x0000707f, 0x00001003, .both, fun w => .lh (fRd w) (fRs1 w) (fImmI w)⟩,
  ⟨0x0000707f, 0x00002003, .both, fun w => .lw (fRd w) (fRs1 w) (fImmI w)⟩,
  ⟨0x0000707f, 0x00004003, .both, fun w => .lbu (fRd w) (fRs1 w) (fImmI w)⟩,
  ⟨0x0000707f, 0x00005003, .both, fun w => .lhu (fRd w) (fRs1 w) (fImmI w)⟩,
  ⟨0x0000707f, 0x00006003, .only64, fun w => .lwu (fRd w) (fRs1 w) (fImmI w)⟩,
  ⟨0x0000707f, 0x00003003, .only64, fun w => .ld (fRd w) (fRs1 w) (fImmI w)⟩,
  ⟨0x0000707f, 0x00000023, .both, fun w => .sb (fRs1 w) (fRs2 w) (fImmS w)⟩,
  ⟨0x0000707f, 0x00001023, .both, fun w => .sh (fRs1 w) (fRs2 w) (fImmS w)⟩,
  ⟨0x0000707f, 0x00002023, .both, fun w => .sw (fRs1 w) (fRs2 w) (fImmS w)⟩,
  ⟨0x0000707f, 0x00003023, .only64, fun w => .sd (fRs1 w) (fRs2 w) (fImmS w)⟩]

/-- Logical and shift (42_logical_shift.md): its rows of R138. -/
def rowsLogic : List Row := [
  ⟨0x0000707f, 0x00004013, .both, fun w => .xori (fRd w) (fRs1 w) (fImmI w)⟩,
  ⟨0x0000707f, 0x00006013, .both, fun w => .ori (fRd w) (fRs1 w) (fImmI w)⟩,
  ⟨0x0000707f, 0x00007013, .both, fun w => .andi (fRd w) (fRs1 w) (fImmI w)⟩,
  ⟨0xfe00707f, 0x00001013, .only32, fun w => .slli (fRd w) (fRs1 w) (fShamt5 w)⟩,
  ⟨0xfc00707f, 0x00001013, .only64, fun w => .slli (fRd w) (fRs1 w) (fShamt6 w)⟩,
  ⟨0xfe00707f, 0x00005013, .only32, fun w => .srli (fRd w) (fRs1 w) (fShamt5 w)⟩,
  ⟨0xfc00707f, 0x00005013, .only64, fun w => .srli (fRd w) (fRs1 w) (fShamt6 w)⟩,
  ⟨0xfe00707f, 0x40005013, .only32, fun w => .srai (fRd w) (fRs1 w) (fShamt5 w)⟩,
  ⟨0xfc00707f, 0x40005013, .only64, fun w => .srai (fRd w) (fRs1 w) (fShamt6 w)⟩,
  ⟨0xfe00707f, 0x00001033, .both, fun w => .sll (fRd w) (fRs1 w) (fRs2 w)⟩,
  ⟨0xfe00707f, 0x00004033, .both, fun w => .xor (fRd w) (fRs1 w) (fRs2 w)⟩,
  ⟨0xfe00707f, 0x00005033, .both, fun w => .srl (fRd w) (fRs1 w) (fRs2 w)⟩,
  ⟨0xfe00707f, 0x40005033, .both, fun w => .sra (fRd w) (fRs1 w) (fRs2 w)⟩,
  ⟨0xfe00707f, 0x00006033, .both, fun w => .or (fRd w) (fRs1 w) (fRs2 w)⟩,
  ⟨0xfe00707f, 0x00007033, .both, fun w => .and (fRd w) (fRs1 w) (fRs2 w)⟩,
  ⟨0xfe00707f, 0x0000101b, .only64, fun w => .slliw (fRd w) (fRs1 w) (fRs2 w)⟩,
  ⟨0xfe00707f, 0x0000501b, .only64, fun w => .srliw (fRd w) (fRs1 w) (fRs2 w)⟩,
  ⟨0xfe00707f, 0x4000501b, .only64, fun w => .sraiw (fRd w) (fRs1 w) (fRs2 w)⟩,
  ⟨0xfe00707f, 0x0000103b, .only64, fun w => .sllw (fRd w) (fRs1 w) (fRs2 w)⟩,
  ⟨0xfe00707f, 0x0000503b, .only64, fun w => .srlw (fRd w) (fRs1 w) (fRs2 w)⟩,
  ⟨0xfe00707f, 0x4000503b, .only64, fun w => .sraw (fRd w) (fRs1 w) (fRs2 w)⟩]

/-- Control transfer (43_control_transfer.md): its rows of R138. -/
def rowsControl : List Row := [
  ⟨0x0000007f, 0x0000006f, .both, fun w => .jal (fRd w) (fOffJ w)⟩,
  ⟨0x0000707f, 0x00000067, .both, fun w => .jalr (fRd w) (fRs1 w) (fImmI w)⟩,
  ⟨0x0000707f, 0x00000063, .both, fun w => .beq (fRs1 w) (fRs2 w) (fOffB w)⟩,
  ⟨0x0000707f, 0x00001063, .both, fun w => .bne (fRs1 w) (fRs2 w) (fOffB w)⟩,
  ⟨0x0000707f, 0x00004063, .both, fun w => .blt (fRs1 w) (fRs2 w) (fOffB w)⟩,
  ⟨0x0000707f, 0x00005063, .both, fun w => .bge (fRs1 w) (fRs2 w) (fOffB w)⟩,
  ⟨0x0000707f, 0x00006063, .both, fun w => .bltu (fRs1 w) (fRs2 w) (fOffB w)⟩,
  ⟨0x0000707f, 0x00007063, .both, fun w => .bgeu (fRs1 w) (fRs2 w) (fOffB w)⟩]

/-- Memory order and environment (44_memory_order_environment.md): its rows of R138. -/
def rowsOrder : List Row := [
  ⟨0x0000707f, 0x0000000f, .both, fun w => .fence (fFm w) (fPred w) (fSucc w) (fRs1 w) (fRd w)⟩,
  ⟨0x0000707f, 0x0000100f, .both, fun w => .fenceI (fImmI w) (fRs1 w) (fRd w)⟩,
  ⟨0xffffffff, 0x00000073, .both, fun _ => .ecall⟩,
  ⟨0xffffffff, 0x00100073, .both, fun _ => .ebreak⟩]

/-- Multiply and divide (45_muldiv.md): its rows of R138. -/
def rowsMulDiv : List Row := [
  ⟨0xfe00707f, 0x02000033, .both, fun w => .mul (fRd w) (fRs1 w) (fRs2 w)⟩,
  ⟨0xfe00707f, 0x02001033, .both, fun w => .mulh (fRd w) (fRs1 w) (fRs2 w)⟩,
  ⟨0xfe00707f, 0x02002033, .both, fun w => .mulhsu (fRd w) (fRs1 w) (fRs2 w)⟩,
  ⟨0xfe00707f, 0x02003033, .both, fun w => .mulhu (fRd w) (fRs1 w) (fRs2 w)⟩,
  ⟨0xfe00707f, 0x02004033, .both, fun w => .div (fRd w) (fRs1 w) (fRs2 w)⟩,
  ⟨0xfe00707f, 0x02005033, .both, fun w => .divu (fRd w) (fRs1 w) (fRs2 w)⟩,
  ⟨0xfe00707f, 0x02006033, .both, fun w => .rem (fRd w) (fRs1 w) (fRs2 w)⟩,
  ⟨0xfe00707f, 0x02007033, .both, fun w => .remu (fRd w) (fRs1 w) (fRs2 w)⟩,
  ⟨0xfe00707f, 0x0200003b, .only64, fun w => .mulw (fRd w) (fRs1 w) (fRs2 w)⟩,
  ⟨0xfe00707f, 0x0200403b, .only64, fun w => .divw (fRd w) (fRs1 w) (fRs2 w)⟩,
  ⟨0xfe00707f, 0x0200503b, .only64, fun w => .divuw (fRd w) (fRs1 w) (fRs2 w)⟩,
  ⟨0xfe00707f, 0x0200603b, .only64, fun w => .remw (fRd w) (fRs1 w) (fRs2 w)⟩,
  ⟨0xfe00707f, 0x0200703b, .only64, fun w => .remuw (fRd w) (fRs1 w) (fRs2 w)⟩]

/-- Atomics (46_atomics.md): its rows of R138. -/
def rowsAtomic : List Row := [
  ⟨0xf9f0707f, 0x1000202f, .both, fun w => .lrW (fRd w) (fRs1 w) (fAq w) (fRl w)⟩,
  ⟨0xf9f0707f, 0x1000302f, .only64, fun w => .lrD (fRd w) (fRs1 w) (fAq w) (fRl w)⟩,
  ⟨0xf800707f, 0x1800202f, .both, fun w => .scW (fRd w) (fRs1 w) (fRs2 w) (fAq w) (fRl w)⟩,
  ⟨0xf800707f, 0x1800302f, .only64, fun w => .scD (fRd w) (fRs1 w) (fRs2 w) (fAq w) (fRl w)⟩,
  ⟨0xf800707f, 0x0800202f, .both, fun w => .amoswapW (fRd w) (fRs1 w) (fRs2 w) (fAq w) (fRl w)⟩,
  ⟨0xf800707f, 0x0800302f, .only64, fun w => .amoswapD (fRd w) (fRs1 w) (fRs2 w) (fAq w) (fRl w)⟩,
  ⟨0xf800707f, 0x0000202f, .both, fun w => .amoaddW (fRd w) (fRs1 w) (fRs2 w) (fAq w) (fRl w)⟩,
  ⟨0xf800707f, 0x0000302f, .only64, fun w => .amoaddD (fRd w) (fRs1 w) (fRs2 w) (fAq w) (fRl w)⟩,
  ⟨0xf800707f, 0x2000202f, .both, fun w => .amoxorW (fRd w) (fRs1 w) (fRs2 w) (fAq w) (fRl w)⟩,
  ⟨0xf800707f, 0x2000302f, .only64, fun w => .amoxorD (fRd w) (fRs1 w) (fRs2 w) (fAq w) (fRl w)⟩,
  ⟨0xf800707f, 0x6000202f, .both, fun w => .amoandW (fRd w) (fRs1 w) (fRs2 w) (fAq w) (fRl w)⟩,
  ⟨0xf800707f, 0x6000302f, .only64, fun w => .amoandD (fRd w) (fRs1 w) (fRs2 w) (fAq w) (fRl w)⟩,
  ⟨0xf800707f, 0x4000202f, .both, fun w => .amoorW (fRd w) (fRs1 w) (fRs2 w) (fAq w) (fRl w)⟩,
  ⟨0xf800707f, 0x4000302f, .only64, fun w => .amoorD (fRd w) (fRs1 w) (fRs2 w) (fAq w) (fRl w)⟩,
  ⟨0xf800707f, 0x8000202f, .both, fun w => .amominW (fRd w) (fRs1 w) (fRs2 w) (fAq w) (fRl w)⟩,
  ⟨0xf800707f, 0x8000302f, .only64, fun w => .amominD (fRd w) (fRs1 w) (fRs2 w) (fAq w) (fRl w)⟩,
  ⟨0xf800707f, 0xa000202f, .both, fun w => .amomaxW (fRd w) (fRs1 w) (fRs2 w) (fAq w) (fRl w)⟩,
  ⟨0xf800707f, 0xa000302f, .only64, fun w => .amomaxD (fRd w) (fRs1 w) (fRs2 w) (fAq w) (fRl w)⟩,
  ⟨0xf800707f, 0xc000202f, .both, fun w => .amominuW (fRd w) (fRs1 w) (fRs2 w) (fAq w) (fRl w)⟩,
  ⟨0xf800707f, 0xc000302f, .only64, fun w => .amominuD (fRd w) (fRs1 w) (fRs2 w) (fAq w) (fRl w)⟩,
  ⟨0xf800707f, 0xe000202f, .both, fun w => .amomaxuW (fRd w) (fRs1 w) (fRs2 w) (fAq w) (fRl w)⟩,
  ⟨0xf800707f, 0xe000302f, .only64, fun w => .amomaxuD (fRd w) (fRs1 w) (fRs2 w) (fAq w) (fRl w)⟩]

/-- Single precision (47_fp_single.md): its rows of R138. -/
def rowsSingle : List Row := [
  ⟨0x0000707f, 0x00002007, .both, fun w => .flw (fRd w) (fRs1 w) (fImmI w)⟩,
  ⟨0x0000707f, 0x00002027, .both, fun w => .fsw (fRs1 w) (fRs2 w) (fImmS w)⟩,
  ⟨0x0600007f, 0x00000043, .both, fun w => .fmaddS (fRd w) (fRs1 w) (fRs2 w) (fRs3 w) (fFunct3 w)⟩,
  ⟨0x0600007f, 0x00000047, .both, fun w => .fmsubS (fRd w) (fRs1 w) (fRs2 w) (fRs3 w) (fFunct3 w)⟩,
  ⟨0x0600007f, 0x0000004b, .both, fun w => .fnmsubS (fRd w) (fRs1 w) (fRs2 w) (fRs3 w) (fFunct3 w)⟩,
  ⟨0x0600007f, 0x0000004f, .both, fun w => .fnmaddS (fRd w) (fRs1 w) (fRs2 w) (fRs3 w) (fFunct3 w)⟩,
  ⟨0xfe00007f, 0x00000053, .both, fun w => .faddS (fRd w) (fRs1 w) (fRs2 w) (fFunct3 w)⟩,
  ⟨0xfe00007f, 0x08000053, .both, fun w => .fsubS (fRd w) (fRs1 w) (fRs2 w) (fFunct3 w)⟩,
  ⟨0xfe00007f, 0x10000053, .both, fun w => .fmulS (fRd w) (fRs1 w) (fRs2 w) (fFunct3 w)⟩,
  ⟨0xfe00007f, 0x18000053, .both, fun w => .fdivS (fRd w) (fRs1 w) (fRs2 w) (fFunct3 w)⟩,
  ⟨0xfff0007f, 0x58000053, .both, fun w => .fsqrtS (fRd w) (fRs1 w) (fFunct3 w)⟩,
  ⟨0xfe00707f, 0x20000053, .both, fun w => .fsgnjS (fRd w) (fRs1 w) (fRs2 w)⟩,
  ⟨0xfe00707f, 0x20001053, .both, fun w => .fsgnjnS (fRd w) (fRs1 w) (fRs2 w)⟩,
  ⟨0xfe00707f, 0x20002053, .both, fun w => .fsgnjxS (fRd w) (fRs1 w) (fRs2 w)⟩,
  ⟨0xfe00707f, 0x28000053, .both, fun w => .fminS (fRd w) (fRs1 w) (fRs2 w)⟩,
  ⟨0xfe00707f, 0x28001053, .both, fun w => .fmaxS (fRd w) (fRs1 w) (fRs2 w)⟩,
  ⟨0xfff0007f, 0xc0000053, .both, fun w => .fcvtWS (fRd w) (fRs1 w) (fFunct3 w)⟩,
  ⟨0xfff0007f, 0xc0100053, .both, fun w => .fcvtWuS (fRd w) (fRs1 w) (fFunct3 w)⟩,
  ⟨0xfff0707f, 0xe0000053, .both, fun w => .fmvXW (fRd w) (fRs1 w)⟩,
  ⟨0xfe00707f, 0xa0002053, .both, fun w => .feqS (fRd w) (fRs1 w) (fRs2 w)⟩,
  ⟨0xfe00707f, 0xa0001053, .both, fun w => .fltS (fRd w) (fRs1 w) (fRs2 w)⟩,
  ⟨0xfe00707f, 0xa0000053, .both, fun w => .fleS (fRd w) (fRs1 w) (fRs2 w)⟩,
  ⟨0xfff0707f, 0xe0001053, .both, fun w => .fclassS (fRd w) (fRs1 w)⟩,
  ⟨0xfff0007f, 0xd0000053, .both, fun w => .fcvtSW (fRd w) (fRs1 w) (fFunct3 w)⟩,
  ⟨0xfff0007f, 0xd0100053, .both, fun w => .fcvtSWu (fRd w) (fRs1 w) (fFunct3 w)⟩,
  ⟨0xfff0707f, 0xf0000053, .both, fun w => .fmvWX (fRd w) (fRs1 w)⟩,
  ⟨0xfff0007f, 0xc0200053, .only64, fun w => .fcvtLS (fRd w) (fRs1 w) (fFunct3 w)⟩,
  ⟨0xfff0007f, 0xc0300053, .only64, fun w => .fcvtLuS (fRd w) (fRs1 w) (fFunct3 w)⟩,
  ⟨0xfff0007f, 0xd0200053, .only64, fun w => .fcvtSL (fRd w) (fRs1 w) (fFunct3 w)⟩,
  ⟨0xfff0007f, 0xd0300053, .only64, fun w => .fcvtSLu (fRd w) (fRs1 w) (fFunct3 w)⟩]

/-- Double precision (48_fp_double.md): its rows of R138. -/
def rowsDouble : List Row := [
  ⟨0x0000707f, 0x00003007, .both, fun w => .fld (fRd w) (fRs1 w) (fImmI w)⟩,
  ⟨0x0000707f, 0x00003027, .both, fun w => .fsd (fRs1 w) (fRs2 w) (fImmS w)⟩,
  ⟨0x0600007f, 0x02000043, .both, fun w => .fmaddD (fRd w) (fRs1 w) (fRs2 w) (fRs3 w) (fFunct3 w)⟩,
  ⟨0x0600007f, 0x02000047, .both, fun w => .fmsubD (fRd w) (fRs1 w) (fRs2 w) (fRs3 w) (fFunct3 w)⟩,
  ⟨0x0600007f, 0x0200004b, .both, fun w => .fnmsubD (fRd w) (fRs1 w) (fRs2 w) (fRs3 w) (fFunct3 w)⟩,
  ⟨0x0600007f, 0x0200004f, .both, fun w => .fnmaddD (fRd w) (fRs1 w) (fRs2 w) (fRs3 w) (fFunct3 w)⟩,
  ⟨0xfe00007f, 0x02000053, .both, fun w => .faddD (fRd w) (fRs1 w) (fRs2 w) (fFunct3 w)⟩,
  ⟨0xfe00007f, 0x0a000053, .both, fun w => .fsubD (fRd w) (fRs1 w) (fRs2 w) (fFunct3 w)⟩,
  ⟨0xfe00007f, 0x12000053, .both, fun w => .fmulD (fRd w) (fRs1 w) (fRs2 w) (fFunct3 w)⟩,
  ⟨0xfe00007f, 0x1a000053, .both, fun w => .fdivD (fRd w) (fRs1 w) (fRs2 w) (fFunct3 w)⟩,
  ⟨0xfff0007f, 0x5a000053, .both, fun w => .fsqrtD (fRd w) (fRs1 w) (fFunct3 w)⟩,
  ⟨0xfe00707f, 0x22000053, .both, fun w => .fsgnjD (fRd w) (fRs1 w) (fRs2 w)⟩,
  ⟨0xfe00707f, 0x22001053, .both, fun w => .fsgnjnD (fRd w) (fRs1 w) (fRs2 w)⟩,
  ⟨0xfe00707f, 0x22002053, .both, fun w => .fsgnjxD (fRd w) (fRs1 w) (fRs2 w)⟩,
  ⟨0xfe00707f, 0x2a000053, .both, fun w => .fminD (fRd w) (fRs1 w) (fRs2 w)⟩,
  ⟨0xfe00707f, 0x2a001053, .both, fun w => .fmaxD (fRd w) (fRs1 w) (fRs2 w)⟩,
  ⟨0xfff0007f, 0x40100053, .both, fun w => .fcvtSD (fRd w) (fRs1 w) (fFunct3 w)⟩,
  ⟨0xfff0007f, 0x42000053, .both, fun w => .fcvtDS (fRd w) (fRs1 w) (fFunct3 w)⟩,
  ⟨0xfe00707f, 0xa2002053, .both, fun w => .feqD (fRd w) (fRs1 w) (fRs2 w)⟩,
  ⟨0xfe00707f, 0xa2001053, .both, fun w => .fltD (fRd w) (fRs1 w) (fRs2 w)⟩,
  ⟨0xfe00707f, 0xa2000053, .both, fun w => .fleD (fRd w) (fRs1 w) (fRs2 w)⟩,
  ⟨0xfff0707f, 0xe2001053, .both, fun w => .fclassD (fRd w) (fRs1 w)⟩,
  ⟨0xfff0007f, 0xc2000053, .both, fun w => .fcvtWD (fRd w) (fRs1 w) (fFunct3 w)⟩,
  ⟨0xfff0007f, 0xc2100053, .both, fun w => .fcvtWuD (fRd w) (fRs1 w) (fFunct3 w)⟩,
  ⟨0xfff0007f, 0xd2000053, .both, fun w => .fcvtDW (fRd w) (fRs1 w) (fFunct3 w)⟩,
  ⟨0xfff0007f, 0xd2100053, .both, fun w => .fcvtDWu (fRd w) (fRs1 w) (fFunct3 w)⟩,
  ⟨0xfff0007f, 0xc2200053, .only64, fun w => .fcvtLD (fRd w) (fRs1 w) (fFunct3 w)⟩,
  ⟨0xfff0007f, 0xc2300053, .only64, fun w => .fcvtLuD (fRd w) (fRs1 w) (fFunct3 w)⟩,
  ⟨0xfff0707f, 0xe2000053, .only64, fun w => .fmvXD (fRd w) (fRs1 w)⟩,
  ⟨0xfff0007f, 0xd2200053, .only64, fun w => .fcvtDL (fRd w) (fRs1 w) (fFunct3 w)⟩,
  ⟨0xfff0007f, 0xd2300053, .only64, fun w => .fcvtDLu (fRd w) (fRs1 w) (fFunct3 w)⟩,
  ⟨0xfff0707f, 0xf2000053, .only64, fun w => .fmvDX (fRd w) (fRs1 w)⟩]

/-- Zicsr (49_zicsr.md): its rows of R138. -/
def rowsCsr : List Row := [
  ⟨0x0000707f, 0x00001073, .both, fun w => .csrrw (fRd w) (fRs1 w) (fImmI w)⟩,
  ⟨0x0000707f, 0x00002073, .both, fun w => .csrrs (fRd w) (fRs1 w) (fImmI w)⟩,
  ⟨0x0000707f, 0x00003073, .both, fun w => .csrrc (fRd w) (fRs1 w) (fImmI w)⟩,
  ⟨0x0000707f, 0x00005073, .both, fun w => .csrrwi (fRd w) (fRs1 w) (fImmI w)⟩,
  ⟨0x0000707f, 0x00006073, .both, fun w => .csrrsi (fRd w) (fRs1 w) (fImmI w)⟩,
  ⟨0x0000707f, 0x00007073, .both, fun w => .csrrci (fRd w) (fRs1 w) (fImmI w)⟩]

/-- The 159 rows of R138. -/
def rows : List Row :=
  rowsArith ++ rowsTransfer ++ rowsLogic ++ rowsControl ++ rowsOrder ++
  rowsMulDiv ++ rowsAtomic ++ rowsSingle ++ rowsDouble ++ rowsCsr

/-! ### Decoding (30_encoding.md R131, R132) -/

/-- Why a word is no instruction (30_encoding.md R132). Each of them makes the step raise IllegalInstruction. -/
inductive Reject where
  /-- Fewer than four bytes were given. -/
  | truncated
  /-- Bits 1:0 are not 11: the 16-bit compressed space, which this machine lacks. -/
  | compressedSpace
  /-- Bits 6:0 name no major opcode of R130. -/
  | unusedMajorOpcode
  /-- The word matches a row, but one that does not exist at this XLEN. -/
  | notAtThisXLen
  /-- An unused funct3, funct7, funct5, fmt or sub-opcode value, or a must-be-zero field that is not zero. -/
  | unusedEncoding
  deriving DecidableEq, Repr

/-- The major opcodes in use (30_encoding.md R130). -/
def majorOpcodes : List (BitVec 7) :=
  [0x03, 0x07, 0x0F, 0x13, 0x17, 0x1B, 0x23, 0x27, 0x2F, 0x33, 0x37, 0x3B, 0x43, 0x47, 0x4B, 0x4F, 0x53, 0x63, 0x67,
    0x6F, 0x73]

/-- The name of the refusal of a word that matches no row at this XLEN. -/
def rejectReason (w : InstWord) : Reject :=
  if w.extractLsb' 0 2 ≠ 3#2 then .compressedSpace
  else if !majorOpcodes.contains (w.extractLsb' 0 7) then .unusedMajorOpcode
  else if rows.any (fun r => w &&& r.mask == r.pattern) then .notAtThisXLen
  else .unusedEncoding

/-- The instruction of a word at this XLEN (30_encoding.md R131), or why there is none (R132). -/
def decode (xl : XLen) (w : InstWord) : Except Reject Instr :=
  match rows.find? (fun r => r.fits xl w) with
  | some r => .ok (r.build w)
  | none => .error (rejectReason w)

/-- Four bytes as an instruction word, the byte at the lowest address in bits 7:0 (20_memory.md R76, R78). -/
def wordOfBytes (b0 b1 b2 b3 : Byte) : InstWord := b3 ++ b2 ++ b1 ++ b0

/-- The bytes of an instruction word in memory order (20_memory.md R76). -/
def bytesOfWord (w : InstWord) : List Byte :=
  [w.extractLsb' 0 8, w.extractLsb' 8 8, w.extractLsb' 16 8, w.extractLsb' 24 8]

/-- The first instruction of a list of bytes and the bytes after it (30_encoding.md R120: always four bytes). -/
def decodeBytes (xl : XLen) : List Byte → Except Reject (Instr × List Byte)
  | b0 :: b1 :: b2 :: b3 :: rest =>
    match decode xl (wordOfBytes b0 b1 b2 b3) with
    | .ok i => .ok (i, rest)
    | .error e => .error e
  | _ => .error .truncated

/-- What the decoder reads from a row's word of spec/opcode_table.json, its bytes laid out little-endian. Decoding is at
XLEN = 64, where every mnemonic of the table has a row (log entry 23). -/
def decodeTableWord (_nbits w : Nat) : Option Instr :=
  match decodeBytes .rv64 (bytesOfWord (BitVec.ofNat 32 w)) with
  | .ok (i, _) => some i
  | .error _ => none

/-! ### Encoding (30_encoding.md R121, R138) -/

/-- Format R. -/
def encR (funct7 : BitVec 7) (rs2 rs1 : BitVec 5) (funct3 : BitVec 3) (rd : BitVec 5) (op : BitVec 7) : InstWord :=
  funct7 ++ rs2 ++ rs1 ++ funct3 ++ rd ++ op
/-- Format I. -/
def encI (imm : BitVec 12) (rs1 : BitVec 5) (funct3 : BitVec 3) (rd : BitVec 5) (op : BitVec 7) : InstWord :=
  imm ++ rs1 ++ funct3 ++ rd ++ op
/-- Format I with a 6-bit shift amount; at XLEN = 32 its top bit is 0, which gives format I-shamt5. -/
def encShamt6 (top : BitVec 6) (shamt : BitVec 6) (rs1 : BitVec 5) (funct3 : BitVec 3) (rd : BitVec 5) (op : BitVec 7) :
    InstWord :=
  top ++ shamt ++ rs1 ++ funct3 ++ rd ++ op
/-- Format S. -/
def encS (imm : BitVec 12) (rs2 rs1 : BitVec 5) (funct3 : BitVec 3) (op : BitVec 7) : InstWord :=
  imm.extractLsb' 5 7 ++ rs2 ++ rs1 ++ funct3 ++ imm.extractLsb' 0 5 ++ op
/-- Format B: inst[31] = imm[12], inst[30:25] = imm[10:5], inst[11:8] = imm[4:1], inst[7] = imm[11]. -/
def encB (off : BitVec 13) (rs2 rs1 : BitVec 5) (funct3 : BitVec 3) (op : BitVec 7) : InstWord :=
  off.extractLsb' 12 1 ++ off.extractLsb' 5 6 ++ rs2 ++ rs1 ++ funct3 ++ off.extractLsb' 1 4 ++ off.extractLsb' 11 1 ++ op
/-- Format U. -/
def encU (imm : BitVec 20) (rd : BitVec 5) (op : BitVec 7) : InstWord := imm ++ rd ++ op
/-- Format J: inst[31] = imm[20], inst[30:21] = imm[10:1], inst[20] = imm[11], inst[19:12] = imm[19:12]. -/
def encJ (off : BitVec 21) (rd : BitVec 5) (op : BitVec 7) : InstWord :=
  off.extractLsb' 20 1 ++ off.extractLsb' 1 10 ++ off.extractLsb' 11 1 ++ off.extractLsb' 12 8 ++ rd ++ op
/-- Format R4. -/
def encR4 (rs3 : BitVec 5) (fmt : BitVec 2) (rs2 rs1 : BitVec 5) (rm : BitVec 3) (rd : BitVec 5) (op : BitVec 7) : InstWord :=
  rs3 ++ fmt ++ rs2 ++ rs1 ++ rm ++ rd ++ op
/-- Formats R-amo and R-lr, major opcode AMO. -/
def encAmo (funct5 : BitVec 5) (aq rl : Bool) (rs2 rs1 : BitVec 5) (funct3 : BitVec 3) (rd : BitVec 5) : InstWord :=
  funct5 ++ BitVec.ofBool aq ++ BitVec.ofBool rl ++ rs2 ++ rs1 ++ funct3 ++ rd ++ 0x2f#7

/-- The word of an instruction, from the row of R138 that names it. -/
def encode : Instr → InstWord
  | .addi rd rs1 imm => encI imm rs1 0 rd 0x13
  | .slti rd rs1 imm => encI imm rs1 2 rd 0x13
  | .sltiu rd rs1 imm => encI imm rs1 3 rd 0x13
  | .add rd rs1 rs2 => encR 0x0 rs2 rs1 0 rd 0x33
  | .sub rd rs1 rs2 => encR 0x20 rs2 rs1 0 rd 0x33
  | .slt rd rs1 rs2 => encR 0x0 rs2 rs1 2 rd 0x33
  | .sltu rd rs1 rs2 => encR 0x0 rs2 rs1 3 rd 0x33
  | .addiw rd rs1 imm => encI imm rs1 0 rd 0x1b
  | .addw rd rs1 rs2 => encR 0x0 rs2 rs1 0 rd 0x3b
  | .subw rd rs1 rs2 => encR 0x20 rs2 rs1 0 rd 0x3b
  | .lui rd imm => encU imm rd 0x37
  | .auipc rd imm => encU imm rd 0x17
  | .lb rd rs1 imm => encI imm rs1 0 rd 0x3
  | .lh rd rs1 imm => encI imm rs1 1 rd 0x3
  | .lw rd rs1 imm => encI imm rs1 2 rd 0x3
  | .lbu rd rs1 imm => encI imm rs1 4 rd 0x3
  | .lhu rd rs1 imm => encI imm rs1 5 rd 0x3
  | .lwu rd rs1 imm => encI imm rs1 6 rd 0x3
  | .ld rd rs1 imm => encI imm rs1 3 rd 0x3
  | .sb rs1 rs2 imm => encS imm rs2 rs1 0 0x23
  | .sh rs1 rs2 imm => encS imm rs2 rs1 1 0x23
  | .sw rs1 rs2 imm => encS imm rs2 rs1 2 0x23
  | .sd rs1 rs2 imm => encS imm rs2 rs1 3 0x23
  | .xori rd rs1 imm => encI imm rs1 4 rd 0x13
  | .ori rd rs1 imm => encI imm rs1 6 rd 0x13
  | .andi rd rs1 imm => encI imm rs1 7 rd 0x13
  | .slli rd rs1 shamt => encShamt6 0x0 shamt rs1 1 rd 0x13
  | .srli rd rs1 shamt => encShamt6 0x0 shamt rs1 5 rd 0x13
  | .srai rd rs1 shamt => encShamt6 0x10 shamt rs1 5 rd 0x13
  | .sll rd rs1 rs2 => encR 0x0 rs2 rs1 1 rd 0x33
  | .xor rd rs1 rs2 => encR 0x0 rs2 rs1 4 rd 0x33
  | .srl rd rs1 rs2 => encR 0x0 rs2 rs1 5 rd 0x33
  | .sra rd rs1 rs2 => encR 0x20 rs2 rs1 5 rd 0x33
  | .or rd rs1 rs2 => encR 0x0 rs2 rs1 6 rd 0x33
  | .and rd rs1 rs2 => encR 0x0 rs2 rs1 7 rd 0x33
  | .slliw rd rs1 shamt => encR 0x0 shamt rs1 1 rd 0x1b
  | .srliw rd rs1 shamt => encR 0x0 shamt rs1 5 rd 0x1b
  | .sraiw rd rs1 shamt => encR 0x20 shamt rs1 5 rd 0x1b
  | .sllw rd rs1 rs2 => encR 0x0 rs2 rs1 1 rd 0x3b
  | .srlw rd rs1 rs2 => encR 0x0 rs2 rs1 5 rd 0x3b
  | .sraw rd rs1 rs2 => encR 0x20 rs2 rs1 5 rd 0x3b
  | .jal rd off => encJ off rd 0x6f
  | .jalr rd rs1 imm => encI imm rs1 0 rd 0x67
  | .beq rs1 rs2 off => encB off rs2 rs1 0 0x63
  | .bne rs1 rs2 off => encB off rs2 rs1 1 0x63
  | .blt rs1 rs2 off => encB off rs2 rs1 4 0x63
  | .bge rs1 rs2 off => encB off rs2 rs1 5 0x63
  | .bltu rs1 rs2 off => encB off rs2 rs1 6 0x63
  | .bgeu rs1 rs2 off => encB off rs2 rs1 7 0x63
  | .fence fm pred succ rs1 rd => encI (fm ++ pred ++ succ) rs1 0 rd 0xf
  | .fenceI imm rs1 rd => encI imm rs1 1 rd 0xf
  | .ecall => 0x00000073
  | .ebreak => 0x00100073
  | .mul rd rs1 rs2 => encR 0x1 rs2 rs1 0 rd 0x33
  | .mulh rd rs1 rs2 => encR 0x1 rs2 rs1 1 rd 0x33
  | .mulhsu rd rs1 rs2 => encR 0x1 rs2 rs1 2 rd 0x33
  | .mulhu rd rs1 rs2 => encR 0x1 rs2 rs1 3 rd 0x33
  | .div rd rs1 rs2 => encR 0x1 rs2 rs1 4 rd 0x33
  | .divu rd rs1 rs2 => encR 0x1 rs2 rs1 5 rd 0x33
  | .rem rd rs1 rs2 => encR 0x1 rs2 rs1 6 rd 0x33
  | .remu rd rs1 rs2 => encR 0x1 rs2 rs1 7 rd 0x33
  | .mulw rd rs1 rs2 => encR 0x1 rs2 rs1 0 rd 0x3b
  | .divw rd rs1 rs2 => encR 0x1 rs2 rs1 4 rd 0x3b
  | .divuw rd rs1 rs2 => encR 0x1 rs2 rs1 5 rd 0x3b
  | .remw rd rs1 rs2 => encR 0x1 rs2 rs1 6 rd 0x3b
  | .remuw rd rs1 rs2 => encR 0x1 rs2 rs1 7 rd 0x3b
  | .lrW rd rs1 aq rl => encAmo 0x2 aq rl 0 rs1 2 rd
  | .lrD rd rs1 aq rl => encAmo 0x2 aq rl 0 rs1 3 rd
  | .scW rd rs1 rs2 aq rl => encAmo 0x3 aq rl rs2 rs1 2 rd
  | .scD rd rs1 rs2 aq rl => encAmo 0x3 aq rl rs2 rs1 3 rd
  | .amoswapW rd rs1 rs2 aq rl => encAmo 0x1 aq rl rs2 rs1 2 rd
  | .amoswapD rd rs1 rs2 aq rl => encAmo 0x1 aq rl rs2 rs1 3 rd
  | .amoaddW rd rs1 rs2 aq rl => encAmo 0x0 aq rl rs2 rs1 2 rd
  | .amoaddD rd rs1 rs2 aq rl => encAmo 0x0 aq rl rs2 rs1 3 rd
  | .amoxorW rd rs1 rs2 aq rl => encAmo 0x4 aq rl rs2 rs1 2 rd
  | .amoxorD rd rs1 rs2 aq rl => encAmo 0x4 aq rl rs2 rs1 3 rd
  | .amoandW rd rs1 rs2 aq rl => encAmo 0xc aq rl rs2 rs1 2 rd
  | .amoandD rd rs1 rs2 aq rl => encAmo 0xc aq rl rs2 rs1 3 rd
  | .amoorW rd rs1 rs2 aq rl => encAmo 0x8 aq rl rs2 rs1 2 rd
  | .amoorD rd rs1 rs2 aq rl => encAmo 0x8 aq rl rs2 rs1 3 rd
  | .amominW rd rs1 rs2 aq rl => encAmo 0x10 aq rl rs2 rs1 2 rd
  | .amominD rd rs1 rs2 aq rl => encAmo 0x10 aq rl rs2 rs1 3 rd
  | .amomaxW rd rs1 rs2 aq rl => encAmo 0x14 aq rl rs2 rs1 2 rd
  | .amomaxD rd rs1 rs2 aq rl => encAmo 0x14 aq rl rs2 rs1 3 rd
  | .amominuW rd rs1 rs2 aq rl => encAmo 0x18 aq rl rs2 rs1 2 rd
  | .amominuD rd rs1 rs2 aq rl => encAmo 0x18 aq rl rs2 rs1 3 rd
  | .amomaxuW rd rs1 rs2 aq rl => encAmo 0x1c aq rl rs2 rs1 2 rd
  | .amomaxuD rd rs1 rs2 aq rl => encAmo 0x1c aq rl rs2 rs1 3 rd
  | .flw rd rs1 imm => encI imm rs1 2 rd 0x7
  | .fsw rs1 rs2 imm => encS imm rs2 rs1 2 0x27
  | .fmaddS rd rs1 rs2 rs3 rm => encR4 rs3 0 rs2 rs1 rm rd 0x43
  | .fmsubS rd rs1 rs2 rs3 rm => encR4 rs3 0 rs2 rs1 rm rd 0x47
  | .fnmsubS rd rs1 rs2 rs3 rm => encR4 rs3 0 rs2 rs1 rm rd 0x4b
  | .fnmaddS rd rs1 rs2 rs3 rm => encR4 rs3 0 rs2 rs1 rm rd 0x4f
  | .faddS rd rs1 rs2 rm => encR 0x0 rs2 rs1 rm rd 0x53
  | .fsubS rd rs1 rs2 rm => encR 0x4 rs2 rs1 rm rd 0x53
  | .fmulS rd rs1 rs2 rm => encR 0x8 rs2 rs1 rm rd 0x53
  | .fdivS rd rs1 rs2 rm => encR 0xc rs2 rs1 rm rd 0x53
  | .fsqrtS rd rs1 rm => encR 0x2c 0 rs1 rm rd 0x53
  | .fsgnjS rd rs1 rs2 => encR 0x10 rs2 rs1 0 rd 0x53
  | .fsgnjnS rd rs1 rs2 => encR 0x10 rs2 rs1 1 rd 0x53
  | .fsgnjxS rd rs1 rs2 => encR 0x10 rs2 rs1 2 rd 0x53
  | .fminS rd rs1 rs2 => encR 0x14 rs2 rs1 0 rd 0x53
  | .fmaxS rd rs1 rs2 => encR 0x14 rs2 rs1 1 rd 0x53
  | .fcvtWS rd rs1 rm => encR 0x60 0 rs1 rm rd 0x53
  | .fcvtWuS rd rs1 rm => encR 0x60 1 rs1 rm rd 0x53
  | .fmvXW rd rs1 => encR 0x70 0 rs1 0 rd 0x53
  | .feqS rd rs1 rs2 => encR 0x50 rs2 rs1 2 rd 0x53
  | .fltS rd rs1 rs2 => encR 0x50 rs2 rs1 1 rd 0x53
  | .fleS rd rs1 rs2 => encR 0x50 rs2 rs1 0 rd 0x53
  | .fclassS rd rs1 => encR 0x70 0 rs1 1 rd 0x53
  | .fcvtSW rd rs1 rm => encR 0x68 0 rs1 rm rd 0x53
  | .fcvtSWu rd rs1 rm => encR 0x68 1 rs1 rm rd 0x53
  | .fmvWX rd rs1 => encR 0x78 0 rs1 0 rd 0x53
  | .fcvtLS rd rs1 rm => encR 0x60 2 rs1 rm rd 0x53
  | .fcvtLuS rd rs1 rm => encR 0x60 3 rs1 rm rd 0x53
  | .fcvtSL rd rs1 rm => encR 0x68 2 rs1 rm rd 0x53
  | .fcvtSLu rd rs1 rm => encR 0x68 3 rs1 rm rd 0x53
  | .fld rd rs1 imm => encI imm rs1 3 rd 0x7
  | .fsd rs1 rs2 imm => encS imm rs2 rs1 3 0x27
  | .fmaddD rd rs1 rs2 rs3 rm => encR4 rs3 1 rs2 rs1 rm rd 0x43
  | .fmsubD rd rs1 rs2 rs3 rm => encR4 rs3 1 rs2 rs1 rm rd 0x47
  | .fnmsubD rd rs1 rs2 rs3 rm => encR4 rs3 1 rs2 rs1 rm rd 0x4b
  | .fnmaddD rd rs1 rs2 rs3 rm => encR4 rs3 1 rs2 rs1 rm rd 0x4f
  | .faddD rd rs1 rs2 rm => encR 0x1 rs2 rs1 rm rd 0x53
  | .fsubD rd rs1 rs2 rm => encR 0x5 rs2 rs1 rm rd 0x53
  | .fmulD rd rs1 rs2 rm => encR 0x9 rs2 rs1 rm rd 0x53
  | .fdivD rd rs1 rs2 rm => encR 0xd rs2 rs1 rm rd 0x53
  | .fsqrtD rd rs1 rm => encR 0x2d 0 rs1 rm rd 0x53
  | .fsgnjD rd rs1 rs2 => encR 0x11 rs2 rs1 0 rd 0x53
  | .fsgnjnD rd rs1 rs2 => encR 0x11 rs2 rs1 1 rd 0x53
  | .fsgnjxD rd rs1 rs2 => encR 0x11 rs2 rs1 2 rd 0x53
  | .fminD rd rs1 rs2 => encR 0x15 rs2 rs1 0 rd 0x53
  | .fmaxD rd rs1 rs2 => encR 0x15 rs2 rs1 1 rd 0x53
  | .fcvtSD rd rs1 rm => encR 0x20 1 rs1 rm rd 0x53
  | .fcvtDS rd rs1 rm => encR 0x21 0 rs1 rm rd 0x53
  | .feqD rd rs1 rs2 => encR 0x51 rs2 rs1 2 rd 0x53
  | .fltD rd rs1 rs2 => encR 0x51 rs2 rs1 1 rd 0x53
  | .fleD rd rs1 rs2 => encR 0x51 rs2 rs1 0 rd 0x53
  | .fclassD rd rs1 => encR 0x71 0 rs1 1 rd 0x53
  | .fcvtWD rd rs1 rm => encR 0x61 0 rs1 rm rd 0x53
  | .fcvtWuD rd rs1 rm => encR 0x61 1 rs1 rm rd 0x53
  | .fcvtDW rd rs1 rm => encR 0x69 0 rs1 rm rd 0x53
  | .fcvtDWu rd rs1 rm => encR 0x69 1 rs1 rm rd 0x53
  | .fcvtLD rd rs1 rm => encR 0x61 2 rs1 rm rd 0x53
  | .fcvtLuD rd rs1 rm => encR 0x61 3 rs1 rm rd 0x53
  | .fmvXD rd rs1 => encR 0x71 0 rs1 0 rd 0x53
  | .fcvtDL rd rs1 rm => encR 0x69 2 rs1 rm rd 0x53
  | .fcvtDLu rd rs1 rm => encR 0x69 3 rs1 rm rd 0x53
  | .fmvDX rd rs1 => encR 0x79 0 rs1 0 rd 0x53
  | .csrrw rd rs1 csr => encI csr rs1 1 rd 0x73
  | .csrrs rd rs1 csr => encI csr rs1 2 rd 0x73
  | .csrrc rd rs1 csr => encI csr rs1 3 rd 0x73
  | .csrrwi rd uimm csr => encI csr uimm 5 rd 0x73
  | .csrrsi rd uimm csr => encI csr uimm 6 rd 0x73
  | .csrrci rd uimm csr => encI csr uimm 7 rd 0x73

end Sys2Proof
end

