-- ==== Sys2Proof/Machine/State.lean ====
section
/-! DEFINITION. The machine state as plain data: everything 10_state.md and 20_memory.md give the hart and the memory, the
parameters of the run, and the model's own counter of free values. The reasons a step can stop. The state after reset. -/

namespace Sys2Proof.Machine

open Sys2Proof

/-- The size of a memory access (20_memory.md R79). -/
inductive MemSize where
  | byte
  | half
  | word
  | double
  deriving DecidableEq, Repr

/-- A size as a number of bytes. -/
def MemSize.bytes : MemSize → Nat
  | .byte => 1
  | .half => 2
  | .word => 4
  | .double => 8

/-- A load reservation: the address and the size of the `lr` that made it (10_state.md R43). -/
structure Reservation where
  addr : Word
  size : MemSize
  deriving DecidableEq, Repr

/-- The memory: address and byte pairs, addresses strictly rising, no byte equal to what an unlisted address reads as (log
entry 9). The form is Memory.wf of Machine/Ops.lean. -/
structure Memory where
  cells : List Host.Cell
  deriving DecidableEq, Repr

/-- The nine exceptions of 60_exceptions.md R561. -/
inductive Exception where
  | instructionAddressMisaligned
  | instructionAccessFault
  | illegalInstruction
  | breakpoint
  | loadAddressMisaligned
  | loadAccessFault
  | storeAMOAddressMisaligned
  | storeAMOAccessFault
  | environmentCall
  deriving DecidableEq, Repr

/-- Why a step ends the run. -/
inductive Fault where
  /-- `Trap(E, info)` of 60_exceptions.md R560, raised by the shared operation takeTrap for the nine exceptions of R561 with
  the information value of R562. The state is the one before the step: no register, CSR, byte, reservation or pc changed.
  Safe: it is the spec's own outcome, and nothing follows it. -/
  | trap (e : Exception) (info : Word)
  deriving DecidableEq, Repr

/-- Why the model gives no meaning. -/
inductive Refusal where
  /-- An instruction without a meaning yet, raised by exec's arm alone. Safe: the run stops. No arm raises it. -/
  | notModelled (mnemonic : String)
  deriving DecidableEq, Repr

/-- The state of the machine: one hart and its memory (10_state.md, opening; NUM_HARTS = 1, log entry 2). -/
structure State where
  /-- The parameters of the run (00_scope.md R5). No step changes them. -/
  params : Params
  /-- The address of the instruction being executed (10_state.md R32). -/
  pc : Word
  /-- x0 to x31 (10_state.md R30). -/
  x : Vector Word 32
  /-- f0 to f31, FLEN = 64 (10_state.md R36). -/
  f : Vector (BitVec 64) 32
  /-- The 8 live bits of fcsr: frm in bits 7:5, fflags in bits 4:0 (10_state.md R37 to R39). -/
  fcsr : BitVec 8
  /-- The load reservation (10_state.md R43). -/
  res : Option Reservation
  /-- The memory (20_memory.md R70). -/
  mem : Memory
  /-- The older values of the bytes stored to since the last fence.i, as (address, byte) pairs without repeats: V(a) of
  20_memory.md R101 is the current byte and those listed here; the spec's set `dirty` (10_state.md R44) is the set of the
  addresses. -/
  stale : List Host.Cell
  /-- The MODEL's own field: how many free values were taken so far (log entry 12). -/
  draws : Nat
  deriving DecidableEq, Repr

/-- The outcome of a step or of a meaning. -/
abbrev Result := Host.Outcome State Fault Refusal

/-- The state after reset with given parameters and initial memory (10_state.md R50). What R50 leaves unspecified (x1 to x31,
f0 to f31, fflags, frm) is zero: DESIGN CHOICE, unsafe (log entries 6, 7, 8). -/
def State.resetWith (p : Params) (image : Memory) : State :=
  { params := p
    pc := BitVec.ofNat 64 p.resetPc
    x := Vector.replicate 32 0
    f := Vector.replicate 32 0
    fcsr := 0
    res := none
    mem := image
    stale := []
    draws := 0 }

/-- The machine right after reset (10_state.md R50), at the reference parameters and with nothing loaded (log entries 1, 3, 4,
5, 9, 13). -/
def State.reset : State := State.resetWith Params.reference { cells := [] }

end Sys2Proof.Machine
end

