-- ==== Sys2Proof/Machine/Flags.lean ====
section
/-! DEFINITION. The only flags of the machine, the five accrued floating-point exception flags of fflags (10_state.md R35, R38),
the dynamic rounding mode frm (R39), and the rounding mode an instruction uses (47_fp_single.md R404, R405). -/

namespace Sys2Proof.Machine

open Sys2Proof

/-- NV, invalid operation (10_state.md R38). -/
def flagNV : BitVec 5 := 0x10
/-- DZ, divide by zero (10_state.md R38). -/
def flagDZ : BitVec 5 := 0x08
/-- OF, overflow (10_state.md R38). -/
def flagOF : BitVec 5 := 0x04
/-- UF, underflow (10_state.md R38). -/
def flagUF : BitVec 5 := 0x02
/-- NX, inexact (10_state.md R38). -/
def flagNX : BitVec 5 := 0x01
/-- No flag. -/
def flagNone : BitVec 5 := 0

/-- fcsr[4:0] (10_state.md R38). -/
def State.fflags (s : State) : BitVec 5 := s.fcsr.extractLsb' 0 5

/-- fcsr[7:5] (10_state.md R39). -/
def State.frm (s : State) : BitVec 3 := s.fcsr.extractLsb' 5 3

/-- Write fcsr[4:0] and leave frm (10_state.md R38). -/
def State.setFflags (s : State) (v : BitVec 5) : State := { s with fcsr := s.frm ++ v }

/-- Write fcsr[7:5] and leave fflags (10_state.md R39). -/
def State.setFrm (s : State) (v : BitVec 3) : State := { s with fcsr := v ++ s.fflags }

/-- Write fcsr[7:0] (10_state.md R37). -/
def State.setFcsr (s : State) (v : BitVec 8) : State := { s with fcsr := v }

/-- `flags |= fl`: OR raised flags into fflags (47_fp_single.md R402, R406). -/
def State.accrue (s : State) (fl : BitVec 5) : State := s.setFflags (s.fflags ||| fl)

/-- The five rounding modes (47_fp_single.md R404). -/
inductive RMode where
  | rne
  | rtz
  | rdn
  | rup
  | rmm
  deriving DecidableEq, Repr

/-- The mode a 3-bit code names; 101, 110 and 111 name none (47_fp_single.md R404, 10_state.md R39). -/
def modeOfCode (c : BitVec 3) : Option RMode :=
  if c = 0b000 then some .rne
  else if c = 0b001 then some .rtz
  else if c = 0b010 then some .rdn
  else if c = 0b011 then some .rup
  else if c = 0b100 then some .rmm
  else none

/-- `rm_eff`: the static mode, or the mode in frm when rm = 111; none where the instruction is illegal (47_fp_single.md
R405). -/
def effectiveMode (rm frm : BitVec 3) : Option RMode := if rm = 0b111 then modeOfCode frm else modeOfCode rm

end Sys2Proof.Machine
end

