-- ==== Sys2Proof/Machine/Operands.lean ====
section
/-! DEFINITION. Values of XLEN bits and the operand forms: widening, narrowing, the signed and unsigned integers of a value
(00_scope.md R7), immediates (30_encoding.md R122 to R127), shifts (42_logical_shift.md), and the XLEN-wide and 32-bit
arithmetic that several instructions share. A value of XLEN bits stands in a Word with zero above bit XLEN-1 (log entry 15). -/

namespace Sys2Proof.Machine

open Sys2Proof

/-- The low XLEN bits of a word, the rest zero: trunc_XLEN (00_scope.md R7). -/
def narrow (xl : XLen) (v : Word) : Word :=
  match xl with
  | .rv32 => (v.setWidth 32).setWidth 64
  | .rv64 => v

/-- sext_XLEN (00_scope.md R7). -/
def sext (xl : XLen) {n : Nat} (v : BitVec n) : Word := narrow xl (v.signExtend 64)

/-- zext_XLEN (00_scope.md R7). -/
def zext (xl : XLen) {n : Nat} (v : BitVec n) : Word := narrow xl (v.setWidth 64)

/-- unsigned(v) of a value of XLEN bits (00_scope.md R7). -/
def unsigned (xl : XLen) (v : Word) : Nat := (narrow xl v).toNat

/-- signed(v) of a value of XLEN bits (00_scope.md R7). -/
def signed (xl : XLen) (v : Word) : Int :=
  match xl with
  | .rv32 => (v.setWidth 32).toInt
  | .rv64 => v.toInt

/-- The value of XLEN bits that is congruent to an integer modulo 2^XLEN (00_scope.md R7). -/
def ofInteger (xl : XLen) (i : Int) : Word := narrow xl (BitVec.ofInt 64 i)

/-- The integer 1 or 0 of a comparison (40_arithmetic_compare.md R204). -/
def ofCondition (b : Bool) : Word := if b then 1 else 0

/-- The low word v[31:0] of a register value, for the word forms (40_arithmetic_compare.md R209). -/
def lowWord (v : Word) : BitVec 32 := v.setWidth 32

/-- The U-immediate: the 20-bit field in bits 31:12, sign-extended to XLEN (30_encoding.md R125). -/
def immU (xl : XLen) (imm : BitVec 20) : Word := sext xl (imm ++ 0#12)

/-- The amount of a shift by register: the low 5 bits at XLEN = 32, the low 6 at XLEN = 64 (42_logical_shift.md R266). -/
def shiftAmount (xl : XLen) (v : Word) : Nat :=
  match xl with
  | .rv32 => (v.extractLsb' 0 5).toNat
  | .rv64 => (v.extractLsb' 0 6).toNat

/-- The amount of a word shift by register: the low 5 bits (42_logical_shift.md R272). -/
def shiftAmountWord (v : BitVec 32) : Nat := (v.extractLsb' 0 5).toNat

/-- `<<` on XLEN bits (42_logical_shift.md R266). -/
def shiftLeft (xl : XLen) (v : Word) (n : Nat) : Word := narrow xl (v <<< n)

/-- `>>u` on XLEN bits (42_logical_shift.md R267). -/
def shiftRightLogical (xl : XLen) (v : Word) (n : Nat) : Word := narrow xl v >>> n

/-- `>>s` on XLEN bits (42_logical_shift.md R268). -/
def shiftRightArith (xl : XLen) (v : Word) (n : Nat) : Word :=
  match xl with
  | .rv32 => ((v.setWidth 32).sshiftRight n).setWidth 64
  | .rv64 => v.sshiftRight n

/-- The upper half of an exact product, as a two's-complement value of 2*XLEN bits (45_muldiv.md R342). -/
def productHigh (xl : XLen) (p : Int) : Word := ofInteger xl (p / (2 : Int) ^ xl.bits)

/-- Signed division rounding toward zero, with the corner cases of 45_muldiv.md R354 (R345). -/
def divSigned (w : Nat) (a b : Int) : Int :=
  if b = 0 then -1
  else if a = -(2 : Int) ^ (w - 1) ∧ b = -1 then a
  else a.tdiv b

/-- Unsigned division, with the corner case of 45_muldiv.md R354 (R346). -/
def divUnsigned (w : Nat) (a b : Nat) : Nat := if b = 0 then 2 ^ w - 1 else a / b

/-- The remainder of signed division, with the corner cases of 45_muldiv.md R354 (R347). -/
def remSigned (w : Nat) (a b : Int) : Int :=
  if b = 0 then a
  else if a = -(2 : Int) ^ (w - 1) ∧ b = -1 then 0
  else a - b * a.tdiv b

/-- The remainder of unsigned division, with the corner case of 45_muldiv.md R354 (R348). -/
def remUnsigned (a b : Nat) : Nat := if b = 0 then a else a % b

end Sys2Proof.Machine
end

