-- ==== Sys2Proof/Machine/Ops.lean ====
section
/-! DEFINITION. The named operations over the state that the meanings are written with (00_scope.md R8): registers, pc, memory,
the reservation, taking an exception, fetching an instruction. -/

namespace Sys2Proof.Machine

open Sys2Proof

/-! ### Taking an exception (60_exceptions.md R560) -/

/-- The cause codes (60_exceptions.md R561). -/
def Exception.code : Exception → Nat
  | .instructionAddressMisaligned => 0
  | .instructionAccessFault => 1
  | .illegalInstruction => 2
  | .breakpoint => 3
  | .loadAddressMisaligned => 4
  | .loadAccessFault => 5
  | .storeAMOAddressMisaligned => 6
  | .storeAMOAccessFault => 7
  | .environmentCall => 11

/-- `raise E(info)` (00_scope.md R8, 60_exceptions.md R560): the outcome is Trap(E, info) and nothing else happens. There is
no handler, no saved pc and no return from a trap on this machine (R567, R568), so the outcome ends the run (log entry 14). -/
def takeTrap (e : Exception) (info : Word) : Result := .fault (.trap e info)

/-- IllegalInstruction with the instruction word, zero-extended, as info (60_exceptions.md R562). -/
def illegalWord (w : InstWord) : Result := takeTrap .illegalInstruction (w.setWidth 64)

/-- IllegalInstruction raised while an instruction executes (60_exceptions.md R561, R562). -/
def illegal (i : Instr) : Result := illegalWord (encode i)

/-! ### Registers and pc -/

/-- XLEN of the run. -/
def State.xlen (s : State) : XLen := s.params.xlen

/-- `pc`, XLEN bits (10_state.md R32). -/
def State.getPc (s : State) : Word := narrow s.xlen s.pc

/-- `pc <- t` (00_scope.md R8). -/
def State.setPc (s : State) (t : Word) : State := { s with pc := narrow s.xlen t }

/-- The address of the next instruction, pc + 4 modulo 2^XLEN (10_state.md R33, R34). -/
def State.nextPc (s : State) : Word := narrow s.xlen (s.getPc + 4)

/-- `pc <- pc + 4` (10_state.md R33). -/
def State.advance (s : State) : State := s.setPc s.nextPc

/-- `x[i]`: 0 for x0 (10_state.md R30). -/
def State.readX (s : State) (r : XReg) : Word := if r = 0 then 0 else narrow s.xlen (s.x[r.toFin])

/-- `x[i] <- v`: discarded for x0 (10_state.md R30). -/
def State.writeX (s : State) (r : XReg) (v : Word) : State :=
  if r = 0 then s else { s with x := s.x.set r.toFin (narrow s.xlen v) }

/-- `f[i]`, 64 bits (10_state.md R36). -/
def State.readF (s : State) (r : FReg) : BitVec 64 := s.f[r.toFin]

/-- `f[i] <- v` (10_state.md R36). -/
def State.writeF (s : State) (r : FReg) (v : BitVec 64) : State := { s with f := s.f.set r.toFin v }

/-- The instruction completes without a control transfer: pc <- pc + 4 (10_state.md R33). -/
def State.retire (s : State) : Result := .next s.advance

/-- An instruction that exists at XLEN = 64 only: illegal at XLEN = 32 (30_encoding.md R131, 92_eei_decisions.md D23; log
entry 22). -/
def State.onlyRv64 (s : State) (i : Instr) (r : Result) : Result := if s.xlen = .rv64 then r else illegal i

/-- The shape of an integer instruction with two source registers (40_arithmetic_compare.md R200, 42_logical_shift.md R278,
45_muldiv.md R340). -/
def State.opRegReg (s : State) (op : Word → Word → Word) (rd rs1 rs2 : XReg) : Result :=
  (s.writeX rd (op (s.readX rs1) (s.readX rs2))).retire

/-- The shape of an integer instruction with one source register and a constant. -/
def State.opRegConst (s : State) (op : Word → Word → Word) (rd rs1 : XReg) (c : Word) : Result :=
  (s.writeX rd (op (s.readX rs1) c)).retire

/-- The shape of a word form with two source registers: the low 32 bits of both, a 32-bit result, sign-extended
(42_logical_shift.md R272, 45_muldiv.md R349). -/
def State.opWord (s : State) (i : Instr) (op : BitVec 32 → BitVec 32 → BitVec 32) (rd rs1 rs2 : XReg) : Result :=
  s.onlyRv64 i (s.opRegReg (fun a b => (op (lowWord a) (lowWord b)).signExtend 64) rd rs1 rs2)

/-- The shape of a word form with one source register and a shift amount (42_logical_shift.md R275). -/
def State.opWordShift (s : State) (i : Instr) (op : BitVec 32 → Nat → BitVec 32) (rd rs1 : XReg) (shamt : Shamt5) : Result :=
  s.onlyRv64 i (s.writeX rd ((op (lowWord (s.readX rs1)) shamt.toNat).signExtend 64)).retire

/-- The shape of a shift by an immediate; at XLEN = 32 an amount of 32 or more is illegal (42_logical_shift.md R269; log entry
22). -/
def State.opShift (s : State) (i : Instr) (op : Word → Nat → Word) (rd rs1 : XReg) (shamt : Shamt6) : Result :=
  if shamt.toNat < s.xlen.bits then (s.writeX rd (op (s.readX rs1) shamt.toNat)).retire else illegal i

/-! ### Memory (20_memory.md) -/

/-- What an address nothing has written reads as: DESIGN CHOICE, unsafe (log entry 9). -/
def unlistedByte : Byte := 0

/-- The byte a list of cells holds at an address. -/
def readCells : List Host.Cell → Nat → Byte
  | [], _ => unlistedByte
  | (k, b) :: rest, a => if k = a then b else readCells rest a

/-- Put a byte other than unlistedByte at an address, keeping addresses rising. -/
def insertCell : List Host.Cell → Nat → Byte → List Host.Cell
  | [], a, v => [(a, v)]
  | (k, b) :: rest, a, v =>
    if k < a then (k, b) :: insertCell rest a v
    else if k = a then (a, v) :: rest
    else (a, v) :: (k, b) :: rest

/-- Write a byte: the value of an unlisted address removes the entry. -/
def writeCells (cells : List Host.Cell) (a : Nat) (v : Byte) : List Host.Cell :=
  if v = unlistedByte then cells.filter (fun c => c.1 ≠ a) else insertCell cells a v

/-- The canonical form of a list of cells, all above a lower bound: addresses strictly rising, none reading as unlisted. -/
def cellsFrom : Nat → List Host.Cell → Bool
  | _, [] => true
  | lo, (k, b) :: rest => decide (lo ≤ k) && decide (b ≠ unlistedByte) && cellsFrom (k + 1) rest

/-- The canonical form of the memory. -/
def Memory.wf (m : Memory) : Bool := cellsFrom 0 m.cells

/-- M[a] (20_memory.md R70). -/
def Memory.read (m : Memory) (a : Nat) : Byte := readCells m.cells a

/-- M[a] <- v (20_memory.md R70). -/
def Memory.write (m : Memory) (a : Nat) (v : Byte) : Memory := { cells := writeCells m.cells a v }

/-- The address of byte number i of an access at a: the address space is circular (20_memory.md R70, R72). -/
def State.byteAddr (s : State) (a : Word) (i : Nat) : Nat := (a.toNat + i) % 2 ^ s.xlen.bits

/-- The byte address is in main memory (20_memory.md R71). -/
def State.inRange (s : State) (a : Nat) : Bool :=
  decide (s.params.memBase ≤ a) && decide (a < s.params.memBase + s.params.memSize)

/-- `inside_memory(a, n)` (20_memory.md R72). -/
def State.insideMemory (s : State) (a : Word) (n : Nat) : Bool := (List.range n).all (fun i => s.inRange (s.byteAddr a i))

/-- The little-endian value of the n bytes at a: byte number i counts 256^i (20_memory.md R76). -/
def State.readLE (s : State) (a : Word) : (n : Nat) → Nat
  | 0 => 0
  | n + 1 => s.readLE a n + (s.mem.read (s.byteAddr a n)).toNat * 256 ^ n

/-- Add an older value of a byte to the bookkeeping of 20_memory.md R101, without repeats. -/
def addStale (stale : List Host.Cell) (c : Host.Cell) : List Host.Cell := if c ∈ stale then stale else c :: stale

/-- A store of one byte by the hart: the byte it replaces stays admissible for fetches until fence.i (20_memory.md R77,
R101). -/
def State.storeByte (s : State) (a : Nat) (v : Byte) : State :=
  { s with mem := s.mem.write a v, stale := addStale s.stale (a, s.mem.read a) }

/-- Store the low n bytes of v little-endian at a (20_memory.md R77). -/
def State.writeLE (s : State) (a : Word) (v : Word) : (n : Nat) → State
  | 0 => s
  | n + 1 => (s.writeLE a v n).storeByte (s.byteAddr a n) (v.extractLsb' (8 * n) 8)

/-- Whether an access is checked as a load or as a store or AMO (60_exceptions.md R561). -/
inductive Access where
  | load
  | storeAMO
  deriving DecidableEq, Repr

/-- The misaligned exception of an access (20_memory.md R75). -/
def Access.misaligned : Access → Exception
  | .load => .loadAddressMisaligned
  | .storeAMO => .storeAMOAddressMisaligned

/-- The access fault of an access (20_memory.md R72). -/
def Access.accessFault : Access → Exception
  | .load => .loadAccessFault
  | .storeAMO => .storeAMOAccessFault

/-- The address is a multiple of the size (20_memory.md R75). -/
def aligned (a : Word) (n : MemSize) : Bool := a.toNat % n.bytes == 0

/-- The checks of an access, alignment before range (20_memory.md R75, R72, 60_exceptions.md R563), then what the access
does. -/
def State.access (s : State) (k : Access) (a : Word) (n : MemSize) (r : Result) : Result :=
  if aligned a n = false then takeTrap k.misaligned a
  else if s.insideMemory a n.bytes = false then takeTrap k.accessFault a
  else r

/-- The bytes of `MemRead(a, n)` after its checks, zero-extended (20_memory.md R76). -/
def State.readMem (s : State) (a : Word) (n : MemSize) : Word := BitVec.ofNat 64 (s.readLE a n.bytes)

/-- The bytes of `MemWrite(a, n, v)` after its checks (20_memory.md R77). -/
def State.writeMem (s : State) (a : Word) (n : MemSize) (v : Word) : State := s.writeLE a v n.bytes

/-- The sign extension of an n-byte value (20_memory.md R79). -/
def signExtendFrom (n : MemSize) (v : Word) : Word := (v.setWidth (8 * n.bytes)).signExtend 64

/-- The effective address x[rs1] + sext_XLEN(imm) (41_data_transfer.md R230). -/
def State.effectiveAddr (s : State) (rs1 : XReg) (imm : Imm12) : Word := narrow s.xlen (s.readX rs1 + sext s.xlen imm)

/-- The shape of an integer load; ext extends the n-byte value (41_data_transfer.md R231). -/
def State.loadX (s : State) (n : MemSize) (ext : Word → Word) (rd rs1 : XReg) (imm : Imm12) : Result :=
  s.access .load (s.effectiveAddr rs1 imm) n (s.writeX rd (ext (s.readMem (s.effectiveAddr rs1 imm) n))).retire

/-- The shape of a store of the low n bytes of v (41_data_transfer.md R232). -/
def State.store (s : State) (n : MemSize) (v : Word) (rs1 : XReg) (imm : Imm12) : Result :=
  s.access .storeAMO (s.effectiveAddr rs1 imm) n (s.writeMem (s.effectiveAddr rs1 imm) n v).retire

/-! ### The reservation and the free values -/

/-- `res <- (a, n)` (46_atomics.md R371). -/
def State.reserve (s : State) (a : Word) (n : MemSize) : State := { s with res := some { addr := a, size := n } }

/-- `res <- none` (46_atomics.md R373). -/
def State.unreserve (s : State) : State := { s with res := none }

/-- One free value was taken. -/
def State.drew (s : State) : State := { s with draws := s.draws + 1 }

/-- The n bytes at a lie in the reservation set of r, the aligned block of RES_GRAIN bytes holding its address (46_atomics.md
R396). -/
def inReservationSet (grain : Nat) (r : Reservation) (a : Word) (n : MemSize) : Bool :=
  decide (r.addr.toNat / grain * grain ≤ a.toNat) &&
  decide (a.toNat + n.bytes ≤ r.addr.toNat / grain * grain + grain)

/-- `eligible` of 46_atomics.md R373. -/
def State.scEligible (s : State) (a : Word) (n : MemSize) : Bool :=
  match s.res with
  | none => false
  | some r => inReservationSet s.params.resGrain r a n

/-! ### Control transfer (43_control_transfer.md R300) -/

/-- `pc <- t`, unless t is not a multiple of 4; the exception leaves nothing of the state s, the link included (60_exceptions.md
R560). -/
def State.jumpTo (s : State) (t : Word) : Result :=
  if t.toNat % 4 ≠ 0 then takeTrap .instructionAddressMisaligned t else .next (s.setPc t)

/-- pc + offset modulo 2^XLEN (10_state.md R34, 43_control_transfer.md R300). -/
def State.pcRelative (s : State) {n : Nat} (off : BitVec n) : Word := narrow s.xlen (s.getPc + sext s.xlen off)

/-- The shape of a conditional branch (43_control_transfer.md R301). -/
def State.branch (s : State) (taken : Bool) (off : Off13) : Result :=
  if taken then s.jumpTo (s.pcRelative off) else s.retire

/-! ### Instruction fetch (20_memory.md R78, R101) -/

/-- The older values a byte may still be fetched with (20_memory.md R101). -/
def State.olderValues (s : State) (a : Nat) : List Byte := (s.stale.filter (fun c => c.1 = a)).map (fun c => c.2)

/-- I[a]: the current byte, or a draw from V(a) if the byte was stored to since the last fence.i (20_memory.md R101; log entry
11). The argument i numbers the byte within the fetch. -/
def State.fetchByte (s : State) (a i : Nat) : Byte :=
  match s.olderValues a with
  | [] => s.mem.read a
  | b :: older =>
    (s.mem.read a :: b :: older).getD (Config.fetchPick s.draws i % (older.length + 2)) (s.mem.read a)

/-- `Fetch(pc)` after its check: 32 bits, little-endian (20_memory.md R78). -/
def State.fetchWord (s : State) : InstWord :=
  wordOfBytes (s.fetchByte (s.byteAddr s.getPc 0) 0) (s.fetchByte (s.byteAddr s.getPc 1) 1)
    (s.fetchByte (s.byteAddr s.getPc 2) 2) (s.fetchByte (s.byteAddr s.getPc 3) 3)

/-- One of the four bytes at pc was stored to since the last fence.i (20_memory.md R101). -/
def State.fetchIsDirty (s : State) : Bool :=
  (List.range 4).any (fun i => s.stale.any (fun c => c.1 = s.byteAddr s.getPc i))

/-- The state the fetched instruction executes in: only the count of draws moves on, and only if the fetch drew. -/
def State.afterFetch (s : State) : State := if s.fetchIsDirty then s.drew else s

/-- The fetch and the decoding of a step (60_exceptions.md R563): InstructionAccessFault if the four bytes at pc are not all in
memory (20_memory.md R78), IllegalInstruction if the word is no instruction at this XLEN (30_encoding.md R132), else run. pc is a
multiple of 4 in every reachable state and is not checked (60_exceptions.md R564; log entry 16). -/
def State.fetchDecode (s : State) (run : Instr → Result) : Result :=
  if s.insideMemory s.getPc 4 = false then takeTrap .instructionAccessFault s.getPc
  else match decode s.xlen s.fetchWord with
    | .ok i => run i
    | .error _ => illegalWord s.fetchWord

/-- fence.i: every later fetch of this hart sees the memory as it is (44_memory_order_environment.md R322). -/
def State.syncFetch (s : State) : State := { s with stale := [] }

/-! ### The execution environment (60_exceptions.md R581) -/

/-- The environment puts a byte into memory before the run: no store of the hart, so fetches see it (10_state.md R50; log
entry 13). -/
def State.loadByte (s : State) (a : Nat) (v : Byte) : State :=
  { s with mem := s.mem.write a v, stale := s.stale.filter (fun c => c.1 ≠ a) }

/-- INIT_MEM: the environment loads a list of bytes (10_state.md R50; log entry 13). -/
def State.load (s : State) : List Host.Cell → State
  | [] => s
  | (a, v) :: rest => (s.loadByte a v).load rest

/-- The environment loads an instruction word at pc. -/
def State.loadWordAtPc (s : State) (w : InstWord) : State :=
  s.load [(s.byteAddr s.getPc 0, w.extractLsb' 0 8), (s.byteAddr s.getPc 1, w.extractLsb' 8 8),
    (s.byteAddr s.getPc 2, w.extractLsb' 16 8), (s.byteAddr s.getPc 3, w.extractLsb' 24 8)]

end Sys2Proof.Machine
end

