-- ==== Sys2Proof/Machine/Arith.lean ====
section
/-! DEFINITION. The meanings of the arithmetic and set-less-than instructions (40_arithmetic_compare.md R200 to R210). -/

namespace Sys2Proof.Machine

open Sys2Proof

/-- `addi` (40_arithmetic_compare.md R203). -/
def execAddi (rd rs1 : XReg) (imm : Imm12) (s : State) : Result := s.opRegConst (fun a b => a + b) rd rs1 (sext s.xlen imm)

/-- `slti` (40_arithmetic_compare.md R205). -/
def execSlti (rd rs1 : XReg) (imm : Imm12) (s : State) : Result :=
  s.opRegConst (fun a b => ofCondition (decide (signed s.xlen a < signed s.xlen b))) rd rs1 (sext s.xlen imm)

/-- `sltiu` (40_arithmetic_compare.md R207). -/
def execSltiu (rd rs1 : XReg) (imm : Imm12) (s : State) : Result :=
  s.opRegConst (fun a b => ofCondition (decide (unsigned s.xlen a < unsigned s.xlen b))) rd rs1 (sext s.xlen imm)

/-- `add` (40_arithmetic_compare.md R201). -/
def execAdd (rd rs1 rs2 : XReg) (s : State) : Result := s.opRegReg (fun a b => a + b) rd rs1 rs2

/-- `sub` (40_arithmetic_compare.md R202). -/
def execSub (rd rs1 rs2 : XReg) (s : State) : Result := s.opRegReg (fun a b => a - b) rd rs1 rs2

/-- `slt` (40_arithmetic_compare.md R204). -/
def execSlt (rd rs1 rs2 : XReg) (s : State) : Result :=
  s.opRegReg (fun a b => ofCondition (decide (signed s.xlen a < signed s.xlen b))) rd rs1 rs2

/-- `sltu` (40_arithmetic_compare.md R206). -/
def execSltu (rd rs1 rs2 : XReg) (s : State) : Result :=
  s.opRegReg (fun a b => ofCondition (decide (unsigned s.xlen a < unsigned s.xlen b))) rd rs1 rs2

/-- `addiw` (40_arithmetic_compare.md R208). -/
def execAddiw (rd rs1 : XReg) (imm : Imm12) (s : State) : Result :=
  s.onlyRv64 (.addiw rd rs1 imm)
    (s.opRegConst (fun a b => (lowWord (a + b)).signExtend 64) rd rs1 (imm.signExtend 64))

/-- `addw` (40_arithmetic_compare.md R209). -/
def execAddw (rd rs1 rs2 : XReg) (s : State) : Result := s.opWord (.addw rd rs1 rs2) (fun a b => a + b) rd rs1 rs2

/-- `subw` (40_arithmetic_compare.md R210). -/
def execSubw (rd rs1 rs2 : XReg) (s : State) : Result := s.opWord (.subw rd rs1 rs2) (fun a b => a - b) rd rs1 rs2

end Sys2Proof.Machine
end

