-- ==== Sys2Proof/Machine/Atomic.lean ====
section
/-! DEFINITION. The meanings of the atomic instructions (46_atomics.md R370 to R397). The aq and rl bits have no effect with one hart
(R370; log entry 18). -/

namespace Sys2Proof.Machine

open Sys2Proof

/-- The shape of `lr` (46_atomics.md R370, R371). -/
def State.loadReserved (s : State) (n : MemSize) (rd rs1 : XReg) : Result :=
  s.access .load (s.readX rs1) n
    ((s.reserve (s.readX rs1) n).writeX rd (signExtendFrom n (s.readMem (s.readX rs1) n))).retire

/-- The shape of `sc` after its checks: an eligible one takes a draw and succeeds or fails by it, another fails (46_atomics.md
R373; log entry 10). -/
def State.storeConditional (s : State) (n : MemSize) (rd rs1 rs2 : XReg) : Result :=
  s.access .storeAMO (s.readX rs1) n
    (if s.scEligible (s.readX rs1) n then
      if Config.scSucceeds s.draws then
        ((s.drew.writeMem (s.readX rs1) n (s.readX rs2)).unreserve.writeX rd 0).retire
      else (s.drew.unreserve.writeX rd 1).retire
    else (s.unreserve.writeX rd 1).retire)

/-- The new value an `amo` stores: op of the old n bytes and the low n bytes of b, zero-extended (46_atomics.md R375). -/
def amoResult (n : MemSize) (op : BitVec (8 * n.bytes) → BitVec (8 * n.bytes) → BitVec (8 * n.bytes)) (t b : Word) : Word :=
  (op (t.setWidth (8 * n.bytes)) (b.setWidth (8 * n.bytes))).setWidth 64

/-- The shape of an `amo` (46_atomics.md R375). -/
def State.amo (s : State) (n : MemSize) (op : BitVec (8 * n.bytes) → BitVec (8 * n.bytes) → BitVec (8 * n.bytes))
    (rd rs1 rs2 : XReg) : Result :=
  s.access .storeAMO (s.readX rs1) n
    ((s.writeMem (s.readX rs1) n (amoResult n op (s.readMem (s.readX rs1) n) (s.readX rs2))).writeX rd
      (signExtendFrom n (s.readMem (s.readX rs1) n))).retire

/-- op of `amoswap` (46_atomics.md R376, R377). -/
def amoSwap (w : Nat) (_t b : BitVec w) : BitVec w := b

/-- op of `amoadd` (46_atomics.md R378, R379). -/
def amoAdd (w : Nat) (t b : BitVec w) : BitVec w := t + b

/-- op of `amoxor` (46_atomics.md R384, R385). -/
def amoXor (w : Nat) (t b : BitVec w) : BitVec w := t ^^^ b

/-- op of `amoand` (46_atomics.md R380, R381). -/
def amoAnd (w : Nat) (t b : BitVec w) : BitVec w := t &&& b

/-- op of `amoor` (46_atomics.md R382, R383). -/
def amoOr (w : Nat) (t b : BitVec w) : BitVec w := t ||| b

/-- op of `amomin` (46_atomics.md R386, R387). -/
def amoMin (w : Nat) (t b : BitVec w) : BitVec w := if t.toInt < b.toInt then t else b

/-- op of `amomax` (46_atomics.md R388, R389). -/
def amoMax (w : Nat) (t b : BitVec w) : BitVec w := if b.toInt < t.toInt then t else b

/-- op of `amominu` (46_atomics.md R390, R391). -/
def amoMinu (w : Nat) (t b : BitVec w) : BitVec w := if t.toNat < b.toNat then t else b

/-- op of `amomaxu` (46_atomics.md R392, R393). -/
def amoMaxu (w : Nat) (t b : BitVec w) : BitVec w := if b.toNat < t.toNat then t else b

/-- `lr.w` (46_atomics.md R371). -/
def execLrW (rd rs1 : XReg) (_aq _rl : Bool) (s : State) : Result := s.loadReserved .word rd rs1

/-- `lr.d` (46_atomics.md R372). -/
def execLrD (rd rs1 : XReg) (aq rl : Bool) (s : State) : Result :=
  s.onlyRv64 (.lrD rd rs1 aq rl) (s.loadReserved .double rd rs1)

/-- `sc.w` (46_atomics.md R373). -/
def execScW (rd rs1 rs2 : XReg) (_aq _rl : Bool) (s : State) : Result := s.storeConditional .word rd rs1 rs2

/-- `sc.d` (46_atomics.md R374). -/
def execScD (rd rs1 rs2 : XReg) (aq rl : Bool) (s : State) : Result :=
  s.onlyRv64 (.scD rd rs1 rs2 aq rl) (s.storeConditional .double rd rs1 rs2)

/-- `amoswap.w` (46_atomics.md R376). -/
def execAmoswapW (rd rs1 rs2 : XReg) (_aq _rl : Bool) (s : State) : Result := s.amo .word (amoSwap 32) rd rs1 rs2

/-- `amoswap.d` (46_atomics.md R377). -/
def execAmoswapD (rd rs1 rs2 : XReg) (aq rl : Bool) (s : State) : Result :=
  s.onlyRv64 (.amoswapD rd rs1 rs2 aq rl) (s.amo .double (amoSwap 64) rd rs1 rs2)

/-- `amoadd.w` (46_atomics.md R378). -/
def execAmoaddW (rd rs1 rs2 : XReg) (_aq _rl : Bool) (s : State) : Result := s.amo .word (amoAdd 32) rd rs1 rs2

/-- `amoadd.d` (46_atomics.md R379). -/
def execAmoaddD (rd rs1 rs2 : XReg) (aq rl : Bool) (s : State) : Result :=
  s.onlyRv64 (.amoaddD rd rs1 rs2 aq rl) (s.amo .double (amoAdd 64) rd rs1 rs2)

/-- `amoxor.w` (46_atomics.md R384). -/
def execAmoxorW (rd rs1 rs2 : XReg) (_aq _rl : Bool) (s : State) : Result := s.amo .word (amoXor 32) rd rs1 rs2

/-- `amoxor.d` (46_atomics.md R385). -/
def execAmoxorD (rd rs1 rs2 : XReg) (aq rl : Bool) (s : State) : Result :=
  s.onlyRv64 (.amoxorD rd rs1 rs2 aq rl) (s.amo .double (amoXor 64) rd rs1 rs2)

/-- `amoand.w` (46_atomics.md R380). -/
def execAmoandW (rd rs1 rs2 : XReg) (_aq _rl : Bool) (s : State) : Result := s.amo .word (amoAnd 32) rd rs1 rs2

/-- `amoand.d` (46_atomics.md R381). -/
def execAmoandD (rd rs1 rs2 : XReg) (aq rl : Bool) (s : State) : Result :=
  s.onlyRv64 (.amoandD rd rs1 rs2 aq rl) (s.amo .double (amoAnd 64) rd rs1 rs2)

/-- `amoor.w` (46_atomics.md R382). -/
def execAmoorW (rd rs1 rs2 : XReg) (_aq _rl : Bool) (s : State) : Result := s.amo .word (amoOr 32) rd rs1 rs2

/-- `amoor.d` (46_atomics.md R383). -/
def execAmoorD (rd rs1 rs2 : XReg) (aq rl : Bool) (s : State) : Result :=
  s.onlyRv64 (.amoorD rd rs1 rs2 aq rl) (s.amo .double (amoOr 64) rd rs1 rs2)

/-- `amomin.w` (46_atomics.md R386). -/
def execAmominW (rd rs1 rs2 : XReg) (_aq _rl : Bool) (s : State) : Result := s.amo .word (amoMin 32) rd rs1 rs2

/-- `amomin.d` (46_atomics.md R387). -/
def execAmominD (rd rs1 rs2 : XReg) (aq rl : Bool) (s : State) : Result :=
  s.onlyRv64 (.amominD rd rs1 rs2 aq rl) (s.amo .double (amoMin 64) rd rs1 rs2)

/-- `amomax.w` (46_atomics.md R388). -/
def execAmomaxW (rd rs1 rs2 : XReg) (_aq _rl : Bool) (s : State) : Result := s.amo .word (amoMax 32) rd rs1 rs2

/-- `amomax.d` (46_atomics.md R389). -/
def execAmomaxD (rd rs1 rs2 : XReg) (aq rl : Bool) (s : State) : Result :=
  s.onlyRv64 (.amomaxD rd rs1 rs2 aq rl) (s.amo .double (amoMax 64) rd rs1 rs2)

/-- `amominu.w` (46_atomics.md R390). -/
def execAmominuW (rd rs1 rs2 : XReg) (_aq _rl : Bool) (s : State) : Result := s.amo .word (amoMinu 32) rd rs1 rs2

/-- `amominu.d` (46_atomics.md R391). -/
def execAmominuD (rd rs1 rs2 : XReg) (aq rl : Bool) (s : State) : Result :=
  s.onlyRv64 (.amominuD rd rs1 rs2 aq rl) (s.amo .double (amoMinu 64) rd rs1 rs2)

/-- `amomaxu.w` (46_atomics.md R392). -/
def execAmomaxuW (rd rs1 rs2 : XReg) (_aq _rl : Bool) (s : State) : Result := s.amo .word (amoMaxu 32) rd rs1 rs2

/-- `amomaxu.d` (46_atomics.md R393). -/
def execAmomaxuD (rd rs1 rs2 : XReg) (aq rl : Bool) (s : State) : Result :=
  s.onlyRv64 (.amomaxuD rd rs1 rs2 aq rl) (s.amo .double (amoMaxu 64) rd rs1 rs2)

end Sys2Proof.Machine
end

