-- ==== Sys2Proof/Machine/Control.lean ====
section
/-! DEFINITION. The meanings of the branches and jumps (43_control_transfer.md R300 to R308). -/

namespace Sys2Proof.Machine

open Sys2Proof

/-- `jal` (43_control_transfer.md R307). -/
def execJal (rd : XReg) (off : Off21) (s : State) : Result := (s.writeX rd s.nextPc).jumpTo (s.pcRelative off)

/-- `jalr` (43_control_transfer.md R308): bit 0 of the sum is cleared. -/
def execJalr (rd rs1 : XReg) (imm : Imm12) (s : State) : Result :=
  (s.writeX rd s.nextPc).jumpTo (s.effectiveAddr rs1 imm &&& ~~~1)

/-- `beq` (43_control_transfer.md R301). -/
def execBeq (rs1 rs2 : XReg) (off : Off13) (s : State) : Result := s.branch (s.readX rs1 == s.readX rs2) off

/-- `bne` (43_control_transfer.md R302). -/
def execBne (rs1 rs2 : XReg) (off : Off13) (s : State) : Result := s.branch (s.readX rs1 != s.readX rs2) off

/-- `blt` (43_control_transfer.md R303). -/
def execBlt (rs1 rs2 : XReg) (off : Off13) (s : State) : Result :=
  s.branch (decide (signed s.xlen (s.readX rs1) < signed s.xlen (s.readX rs2))) off

/-- `bge` (43_control_transfer.md R304). -/
def execBge (rs1 rs2 : XReg) (off : Off13) (s : State) : Result :=
  s.branch (decide (signed s.xlen (s.readX rs2) ≤ signed s.xlen (s.readX rs1))) off

/-- `bltu` (43_control_transfer.md R305). -/
def execBltu (rs1 rs2 : XReg) (off : Off13) (s : State) : Result :=
  s.branch (decide (unsigned s.xlen (s.readX rs1) < unsigned s.xlen (s.readX rs2))) off

/-- `bgeu` (43_control_transfer.md R306). -/
def execBgeu (rs1 rs2 : XReg) (off : Off13) (s : State) : Result :=
  s.branch (decide (unsigned s.xlen (s.readX rs2) ≤ unsigned s.xlen (s.readX rs1))) off

end Sys2Proof.Machine
end

