-- ==== Sys2Proof/Machine/Csr.lean ====
section
/-! DEFINITION. The meanings of the CSR instructions (49_zicsr.md R520 to R526). -/

namespace Sys2Proof.Machine

open Sys2Proof

/-- The three implemented CSRs: fflags, frm, fcsr (10_state.md R37, 49_zicsr.md R520). -/
def csrImplemented (a : CsrAddr) : Bool := a == 0x001 || a == 0x002 || a == 0x003

/-- `csr_read` of an implemented address (49_zicsr.md R520). -/
def State.csrRead (s : State) (a : CsrAddr) : Word :=
  if a = 0x001 then s.fflags.setWidth 64 else if a = 0x002 then s.frm.setWidth 64 else s.fcsr.setWidth 64

/-- `csr_write` of an implemented address: bits above the width of the register are dropped (49_zicsr.md R520). -/
def State.csrWrite (s : State) (a : CsrAddr) (v : Word) : State :=
  if a = 0x001 then s.setFflags (v.extractLsb' 0 5)
  else if a = 0x002 then s.setFrm (v.extractLsb' 0 3)
  else s.setFcsr (v.extractLsb' 0 8)

/-- The shape of a CSR instruction: `csr_check` first; then the new value, made from the old one, is written unless the write
is suppressed; then rd gets the old value (49_zicsr.md R520 to R526). -/
def State.csrAccess (s : State) (i : Instr) (a : CsrAddr) (rd : XReg) (writes : Bool) (new : Word → Word) : Result :=
  if csrImplemented a then
    ((if writes then s.csrWrite a (new (s.csrRead a)) else s).writeX rd (s.csrRead a)).retire
  else illegal i

/-- `csrrw` (49_zicsr.md R521). -/
def execCsrrw (rd rs1 : XReg) (csr : CsrAddr) (s : State) : Result :=
  s.csrAccess (.csrrw rd rs1 csr) csr rd true (fun _ => s.readX rs1)

/-- `csrrs` (49_zicsr.md R522). -/
def execCsrrs (rd rs1 : XReg) (csr : CsrAddr) (s : State) : Result :=
  s.csrAccess (.csrrs rd rs1 csr) csr rd (rs1 != 0) (fun t => t ||| s.readX rs1)

/-- `csrrc` (49_zicsr.md R523). -/
def execCsrrc (rd rs1 : XReg) (csr : CsrAddr) (s : State) : Result :=
  s.csrAccess (.csrrc rd rs1 csr) csr rd (rs1 != 0) (fun t => t &&& ~~~s.readX rs1)

/-- `csrrwi` (49_zicsr.md R524). -/
def execCsrrwi (rd : XReg) (uimm : Uimm5) (csr : CsrAddr) (s : State) : Result :=
  s.csrAccess (.csrrwi rd uimm csr) csr rd true (fun _ => uimm.setWidth 64)

/-- `csrrsi` (49_zicsr.md R525). -/
def execCsrrsi (rd : XReg) (uimm : Uimm5) (csr : CsrAddr) (s : State) : Result :=
  s.csrAccess (.csrrsi rd uimm csr) csr rd (uimm != 0) (fun t => t ||| uimm.setWidth 64)

/-- `csrrci` (49_zicsr.md R526). -/
def execCsrrci (rd : XReg) (uimm : Uimm5) (csr : CsrAddr) (s : State) : Result :=
  s.csrAccess (.csrrci rd uimm csr) csr rd (uimm != 0) (fun t => t &&& ~~~(uimm.setWidth 64))

end Sys2Proof.Machine
end

