-- ==== Sys2Proof/Machine/Numerics.lean ====
section
/-! DEFINITION. The floating-point numerics of 47_fp_single.md R400 to R417, for both formats: patterns and their exact
values, rounding, and the operations, each giving a pattern (or an integer) and the flags it raises. No machine state here. -/

namespace Sys2Proof.Machine

open Sys2Proof

/-! ### Formats and patterns (R400, R403) -/

/-- The two formats (47_fp_single.md R400). -/
inductive Fmt where
  /-- S, binary32. -/
  | single
  /-- D, binary64. -/
  | double
  deriving DecidableEq, Repr

/-- The width w (47_fp_single.md R400). -/
def Fmt.width : Fmt → Nat
  | .single => 32
  | .double => 64

/-- The precision p (47_fp_single.md R400). -/
def Fmt.prec : Fmt → Nat
  | .single => 24
  | .double => 53

/-- The exponent bias, which is also emax (47_fp_single.md R400). -/
def Fmt.emax : Fmt → Int
  | .single => 127
  | .double => 1023

/-- The least exponent of a normal number (47_fp_single.md R400). -/
def Fmt.emin : Fmt → Int
  | .single => -126
  | .double => -1022

/-- The exponent field with every bit set (47_fp_single.md R400). -/
def Fmt.expOnes : Fmt → Nat
  | .single => 255
  | .double => 2047

/-- A bit pattern of a format. -/
abbrev Pattern (F : Fmt) := BitVec F.width

/-- A pattern and the flags raised with it. -/
abbrev Flagged (F : Fmt) := Pattern F × BitVec 5

/-- The sign bit (47_fp_single.md R400). -/
def signOf (F : Fmt) (a : Pattern F) : Bool := a.getLsbD (F.width - 1)

/-- The exponent field E (47_fp_single.md R400). -/
def expField (F : Fmt) (a : Pattern F) : Nat := (a.extractLsb' (F.prec - 1) (F.width - F.prec)).toNat

/-- The fraction field T (47_fp_single.md R400). -/
def fracField (F : Fmt) (a : Pattern F) : Nat := (a.extractLsb' 0 (F.prec - 1)).toNat

/-- The pattern with a given sign bit and given lower bits. -/
def patternWith (F : Fmt) (s : Bool) (magnitude : Nat) : Pattern F :=
  BitVec.ofNat F.width ((if s then 2 ^ (F.width - 1) else 0) + magnitude)

/-- +0 or -0 (47_fp_single.md R400). -/
def zeroOf (F : Fmt) (s : Bool) : Pattern F := patternWith F s 0

/-- +inf or -inf (47_fp_single.md R400). -/
def infOf (F : Fmt) (s : Bool) : Pattern F := patternWith F s (F.expOnes * 2 ^ (F.prec - 1))

/-- The finite number of largest magnitude: the pattern below infinity (47_fp_single.md R407). -/
def maxFiniteOf (F : Fmt) (s : Bool) : Pattern F := patternWith F s (F.expOnes * 2 ^ (F.prec - 1) - 1)

/-- The canonical NaN (47_fp_single.md R403). -/
def canonicalNaN (F : Fmt) : Pattern F := patternWith F false (F.expOnes * 2 ^ (F.prec - 1) + 2 ^ (F.prec - 2))

/-- A NaN, quiet or signaling (47_fp_single.md R400). -/
def isNaN (F : Fmt) (a : Pattern F) : Bool := expField F a == F.expOnes && fracField F a != 0

/-- A signaling NaN: the top fraction bit is 0 (47_fp_single.md R400). -/
def isSNaN (F : Fmt) (a : Pattern F) : Bool := isNaN F a && !a.getLsbD (F.prec - 2)

/-- An infinity (47_fp_single.md R400). -/
def isInf (F : Fmt) (a : Pattern F) : Bool := expField F a == F.expOnes && fracField F a == 0

/-- A zero (47_fp_single.md R400). -/
def isZero (F : Fmt) (a : Pattern F) : Bool := expField F a == 0 && fracField F a == 0

/-- A subnormal number (47_fp_single.md R400). -/
def isSubnormal (F : Fmt) (a : Pattern F) : Bool := expField F a == 0 && fracField F a != 0

/-- Flip the sign bit (47_fp_single.md R408, R412). -/
def flipSign (F : Fmt) (a : Pattern F) : Pattern F := a ^^^ patternWith F true 0

/-- The magnitude of a with sign s (47_fp_single.md R431). -/
def withSign (F : Fmt) (s : Bool) (a : Pattern F) : Pattern F := patternWith F s (a.toNat % 2 ^ (F.width - 1))

/-! ### Exact rational numbers -/

/-- A fraction num/den with den > 0, not reduced: the exact values of 47_fp_single.md R402. -/
structure Frac where
  num : Int
  den : Nat
  deriving DecidableEq, Repr

/-- The sum of two fractions. -/
def Frac.add (a b : Frac) : Frac := ⟨a.num * b.den + b.num * a.den, a.den * b.den⟩
/-- The product of two fractions. -/
def Frac.mul (a b : Frac) : Frac := ⟨a.num * b.num, a.den * b.den⟩
/-- The quotient of two fractions, the second not zero. -/
def Frac.div (a b : Frac) : Frac := ⟨a.num * b.num.sign * b.den, a.den * b.num.natAbs⟩
/-- a < b. -/
def Frac.lt (a b : Frac) : Bool := decide (a.num * b.den < b.num * a.den)
/-- a = b as numbers. -/
def Frac.eq (a b : Frac) : Bool := decide (a.num * b.den = b.num * a.den)
/-- |a|. -/
def Frac.abs (a : Frac) : Frac := ⟨a.num.natAbs, a.den⟩
/-- 2^e. -/
def Frac.pow2 (e : Int) : Frac := ⟨2 ^ e.toNat, 2 ^ (-e).toNat⟩
/-- An integer. -/
def Frac.ofInt (n : Int) : Frac := ⟨n, 1⟩

/-- `val(a)` of a finite pattern: (-1)^s * T * 2^(emin-p+1) or (-1)^s * (2^(p-1)+T) * 2^(E-bias-p+1) (47_fp_single.md R400). -/
def val (F : Fmt) (a : Pattern F) : Frac :=
  let signed (k : Nat) : Frac := ⟨if signOf F a then -(k : Int) else k, 1⟩
  if expField F a = 0 then (signed (fracField F a)).mul (Frac.pow2 (F.emin - F.prec + 1))
  else (signed (2 ^ (F.prec - 1) + fracField F a)).mul (Frac.pow2 (expField F a - F.emax - F.prec + 1))

/-! ### Rounding (R404, R407) -/

/-- `rint(m, s, r)` for a fraction r >= 0 of a number whose sign is s (47_fp_single.md R407). -/
def rint (m : RMode) (s : Bool) (r : Frac) : Nat :=
  let f := r.num.toNat / r.den
  let d := r.num.toNat % r.den
  if d = 0 then f
  else match m with
    | .rtz => f
    | .rdn => if s then f + 1 else f
    | .rup => if s then f else f + 1
    | .rmm => if r.den ≤ 2 * d then f + 1 else f
    | .rne => if r.den < 2 * d then f + 1 else if 2 * d < r.den then f else if f % 2 = 0 then f else f + 1

/-- floor(log2(r)) for a fraction r > 0 (47_fp_single.md R407). -/
def floorLog2 (r : Frac) : Int :=
  let l : Int := (r.num.toNat.log2 : Int) - (r.den.log2 : Int)
  if r.lt (Frac.pow2 l) then l - 1 else l

/-- The largest finite number, (2 - 2^(1-p)) * 2^emax (47_fp_single.md R407). -/
def maxFinite (F : Fmt) : Frac := (Frac.ofInt (2 ^ F.prec - 1)).mul (Frac.pow2 (F.emax - F.prec + 1))

/-- Whether an overflow goes to infinity (47_fp_single.md R407 step 2). -/
def overflowToInf (m : RMode) (s : Bool) : Bool :=
  match m with
  | .rne => true
  | .rmm => true
  | .rdn => s
  | .rup => !s
  | .rtz => false

/-- The pattern of (-1)^s * k * 2^(e-p+1), where e is the exponent of the binade, at least emin, and k < 2^(p-1) only if
e = emin. A significand k = 2^p carries into the exponent field. DEDUCED from the layout of 47_fp_single.md R400 (log entry
20). -/
def patternOf (F : Fmt) (s : Bool) (e : Int) (k : Nat) : Pattern F :=
  patternWith F s ((e - F.emin).toNat * 2 ^ (F.prec - 1) + k)

/-- Steps 1 to 3 of `round` for a number of sign s and magnitude r > 0 (47_fp_single.md R407): e and ru of step 1, the
overflow of step 2, the second rounding of step 3. -/
def roundMagnitude (F : Fmt) (m : RMode) (s : Bool) (r : Frac) : Flagged F :=
  let e := floorLog2 r
  let k := rint m s (r.mul (Frac.pow2 (-(e - F.prec + 1))))
  let ru := (Frac.ofInt k).mul (Frac.pow2 (e - F.prec + 1))
  if (maxFinite F).lt ru then
    (if overflowToInf m s then infOf F s else maxFiniteOf F s, flagOF ||| flagNX)
  else
    let tiny := ru.lt (Frac.pow2 F.emin)
    let k' := if e < F.emin then rint m s (r.mul (Frac.pow2 (-(F.emin - F.prec + 1)))) else k
    let e' := if e < F.emin then F.emin else e
    let res := (Frac.ofInt k').mul (Frac.pow2 (e' - F.prec + 1))
    (patternOf F s e' k', if res.eq r then flagNone else if tiny then flagUF ||| flagNX else flagNX)

/-- `round(F, m, v, zs)` (47_fp_single.md R407). -/
def round (F : Fmt) (m : RMode) (v : Frac) (zs : Bool) : Flagged F :=
  if v.num = 0 then (zeroOf F zs, flagNone) else roundMagnitude F m (decide (v.num < 0)) v.abs

/-! ### Arithmetic (R408 to R413) -/

/-- `fp_add` (47_fp_single.md R408). -/
def fpAdd (F : Fmt) (m : RMode) (a b : Pattern F) : Flagged F :=
  if isSNaN F a || isSNaN F b then (canonicalNaN F, flagNV)
  else if isNaN F a || isNaN F b then (canonicalNaN F, flagNone)
  else if isInf F a && isInf F b then
    if signOf F a = signOf F b then (a, flagNone) else (canonicalNaN F, flagNV)
  else if isInf F a then (a, flagNone)
  else if isInf F b then (b, flagNone)
  else round F m ((val F a).add (val F b))
    (if isZero F a && isZero F b && signOf F a == signOf F b then signOf F a else m == .rdn)

/-- `fp_sub` (47_fp_single.md R408). -/
def fpSub (F : Fmt) (m : RMode) (a b : Pattern F) : Flagged F := fpAdd F m a (flipSign F b)

/-- `fp_mul` (47_fp_single.md R409). -/
def fpMul (F : Fmt) (m : RMode) (a b : Pattern F) : Flagged F :=
  if isSNaN F a || isSNaN F b then (canonicalNaN F, flagNV)
  else if isNaN F a || isNaN F b then (canonicalNaN F, flagNone)
  else if (isInf F a && isZero F b) || (isZero F a && isInf F b) then (canonicalNaN F, flagNV)
  else if isInf F a || isInf F b then (infOf F (signOf F a ^^ signOf F b), flagNone)
  else round F m ((val F a).mul (val F b)) (signOf F a ^^ signOf F b)

/-- `fp_div` (47_fp_single.md R410). -/
def fpDiv (F : Fmt) (m : RMode) (a b : Pattern F) : Flagged F :=
  if isSNaN F a || isSNaN F b then (canonicalNaN F, flagNV)
  else if isNaN F a || isNaN F b then (canonicalNaN F, flagNone)
  else if isInf F a then
    if isInf F b then (canonicalNaN F, flagNV) else (infOf F (signOf F a ^^ signOf F b), flagNone)
  else if isInf F b then (zeroOf F (signOf F a ^^ signOf F b), flagNone)
  else if isZero F b then
    if isZero F a then (canonicalNaN F, flagNV) else (infOf F (signOf F a ^^ signOf F b), flagDZ)
  else round F m ((val F a).div (val F b)) (signOf F a ^^ signOf F b)

/-- The integer square root of t, for t < 4^fuel. -/
def isqrt : (fuel t : Nat) → Nat
  | 0, _ => 0
  | fuel + 1, t =>
    let r := 2 * isqrt fuel (t / 4)
    if (r + 1) * (r + 1) ≤ t then r + 1 else r

/-- A fraction that stands for the real square root of v > 0 when it is rounded to p bits: the root to p + 2 bits below
v's own denominator, plus half of the last bit if it is not exact. It is on the same side as the root of every number that
decides a rounding (47_fp_single.md R411; DEDUCED, log entry 19). -/
def sqrtStandIn (p : Nat) (v : Frac) : Frac :=
  let t := v.num.toNat * v.den * 4 ^ (p + 2)
  let r := isqrt (t.log2 / 2 + 1) t
  ⟨2 * r + (if r * r = t then 0 else 1), 2 ^ (p + 3) * v.den⟩

/-- `fp_sqrt` (47_fp_single.md R411). -/
def fpSqrt (F : Fmt) (m : RMode) (a : Pattern F) : Flagged F :=
  if isSNaN F a then (canonicalNaN F, flagNV)
  else if isNaN F a then (canonicalNaN F, flagNone)
  else if isZero F a then (a, flagNone)
  else if signOf F a then (canonicalNaN F, flagNV)
  else if isInf F a then (a, flagNone)
  else round F m (sqrtStandIn F.prec (val F a)) false

/-- `fp_fma` (47_fp_single.md R412). -/
def fpFma (F : Fmt) (m : RMode) (a b c : Pattern F) : Flagged F :=
  if (isInf F a && isZero F b) || (isZero F a && isInf F b) then (canonicalNaN F, flagNV)
  else if isSNaN F a || isSNaN F b || isSNaN F c then (canonicalNaN F, flagNV)
  else if isNaN F a || isNaN F b || isNaN F c then (canonicalNaN F, flagNone)
  else if isInf F a || isInf F b then
    if isInf F c && signOf F c != (signOf F a ^^ signOf F b) then (canonicalNaN F, flagNV)
    else (infOf F (signOf F a ^^ signOf F b), flagNone)
  else if isInf F c then (c, flagNone)
  else round F m (((val F a).mul (val F b)).add (val F c))
    (if (isZero F a || isZero F b) && isZero F c && (signOf F a ^^ signOf F b) == signOf F c
      then signOf F a ^^ signOf F b else m == .rdn)

/-! ### Comparison (R413, R414) -/

/-- a < b as extended reals, neither a NaN (47_fp_single.md R413, R414). -/
def extLt (F : Fmt) (a b : Pattern F) : Bool :=
  if isInf F a then signOf F a && !(isInf F b && signOf F b)
  else if isInf F b then !signOf F b
  else (val F a).lt (val F b)

/-- a equals b as extended reals, neither a NaN; +0 equals -0 (47_fp_single.md R414). -/
def extEq (F : Fmt) (a b : Pattern F) : Bool :=
  if isInf F a || isInf F b then isInf F a && isInf F b && signOf F a == signOf F b
  else (val F a).eq (val F b)

/-- NV if an operand is a signaling NaN (47_fp_single.md R413, R414). -/
def flagIfSNaN (F : Fmt) (a b : Pattern F) : BitVec 5 := if isSNaN F a || isSNaN F b then flagNV else flagNone

/-- `fp_min` (47_fp_single.md R413). -/
def fpMin (F : Fmt) (a b : Pattern F) : Flagged F :=
  (if isNaN F a && isNaN F b then canonicalNaN F
    else if isNaN F a then b
    else if isNaN F b then a
    else if isZero F a && isZero F b then zeroOf F (signOf F a || signOf F b)
    else if extLt F a b then a else b,
   flagIfSNaN F a b)

/-- `fp_max` (47_fp_single.md R413). -/
def fpMax (F : Fmt) (a b : Pattern F) : Flagged F :=
  (if isNaN F a && isNaN F b then canonicalNaN F
    else if isNaN F a then b
    else if isNaN F b then a
    else if isZero F a && isZero F b then zeroOf F (signOf F a && signOf F b)
    else if extLt F b a then a else b,
   flagIfSNaN F a b)

/-- `fp_eq`, a quiet comparison (47_fp_single.md R414). -/
def fpEq (F : Fmt) (a b : Pattern F) : Bool × BitVec 5 :=
  if isNaN F a || isNaN F b then (false, flagIfSNaN F a b) else (extEq F a b, flagNone)

/-- `fp_lt`, a signaling comparison (47_fp_single.md R414). -/
def fpLt (F : Fmt) (a b : Pattern F) : Bool × BitVec 5 :=
  if isNaN F a || isNaN F b then (false, flagNV) else (extLt F a b, flagNone)

/-- `fp_le`, a signaling comparison (47_fp_single.md R414). -/
def fpLe (F : Fmt) (a b : Pattern F) : Bool × BitVec 5 :=
  if isNaN F a || isNaN F b then (false, flagNV) else (extLt F a b || extEq F a b, flagNone)

/-! ### Classification and conversion (R415 to R417, 48_fp_double.md R488, R489) -/

/-- `fp_class`: a mask with one bit set (47_fp_single.md R415). -/
def fpClass (F : Fmt) (a : Pattern F) : BitVec 10 :=
  if isNaN F a then (if isSNaN F a then 0x100 else 0x200)
  else if isInf F a then (if signOf F a then 0x001 else 0x080)
  else if isZero F a then (if signOf F a then 0x008 else 0x010)
  else if isSubnormal F a then (if signOf F a then 0x004 else 0x020)
  else (if signOf F a then 0x002 else 0x040)

/-- The least integer of W bits (47_fp_single.md R416). -/
def intLow (W : Nat) (sgn : Bool) : Int := if sgn then -(2 : Int) ^ (W - 1) else 0

/-- The greatest integer of W bits (47_fp_single.md R416). -/
def intHigh (W : Nat) (sgn : Bool) : Int := if sgn then (2 : Int) ^ (W - 1) - 1 else (2 : Int) ^ W - 1

/-- `fp_to_int` (47_fp_single.md R416). -/
def fpToInt (F : Fmt) (m : RMode) (a : Pattern F) (W : Nat) (sgn : Bool) : Int × BitVec 5 :=
  if isNaN F a then (intHigh W sgn, flagNV)
  else if isInf F a then (if signOf F a then intLow W sgn else intHigh W sgn, flagNV)
  else
    let k := rint m (signOf F a) (val F a).abs
    let n : Int := if signOf F a then -(k : Int) else k
    if n < intLow W sgn then (intLow W sgn, flagNV)
    else if intHigh W sgn < n then (intHigh W sgn, flagNV)
    else (n, if (Frac.ofInt n).eq (val F a) then flagNone else flagNX)

/-- `int_to_fp` (47_fp_single.md R417). -/
def intToFp (F : Fmt) (m : RMode) (n : Int) : Flagged F := round F m (Frac.ofInt n) false

/-- Conversion from format F to format G (48_fp_double.md R488, R489). -/
def fpConvert (F G : Fmt) (m : RMode) (a : Pattern F) : Flagged G :=
  if isSNaN F a then (canonicalNaN G, flagNV)
  else if isNaN F a then (canonicalNaN G, flagNone)
  else if isInf F a then (infOf G (signOf F a), flagNone)
  else round G m (val F a) (signOf F a)

end Sys2Proof.Machine
end

