-- ==== Sys2Proof/Machine/FloatOps.lean ====
section
/-! DEFINITION. The shapes the floating-point instructions share: the f registers as patterns of a format (47_fp_single.md
R401, R402), the rounding mode, and the order of events of R418. Each shape takes the operation of Machine/Numerics.lean. -/

namespace Sys2Proof.Machine

open Sys2Proof

/-- `box(v)` (47_fp_single.md R401). -/
def box (v : BitVec 32) : BitVec 64 := 0xffffffff#32 ++ v

/-- `unbox(r)` (47_fp_single.md R401). -/
def unbox (r : BitVec 64) : BitVec 32 := if r.extractLsb' 32 32 = 0xffffffff#32 then r.setWidth 32 else 0x7fc00000

/-- `S(i)` or `D(i)`: an f register as an operand of a format (47_fp_single.md R402). -/
def State.readFmt (s : State) : (F : Fmt) → FReg → Pattern F
  | .single, r => unbox (s.readF r)
  | .double, r => s.readF r

/-- `f[rd] <- box(v)` or `f[rd] <- v` (47_fp_single.md R402). -/
def State.writeFmt (s : State) : (F : Fmt) → FReg → Pattern F → State
  | .single, r, v => s.writeF r (box v)
  | .double, r, v => s.writeF r v

/-- Go on in the effective rounding mode, or raise IllegalInstruction (47_fp_single.md R405, R418 item 1). -/
def State.rounding (s : State) (i : Instr) (rm : RmField) (k : RMode → Result) : Result :=
  match effectiveMode rm s.frm with
  | some m => k m
  | none => illegal i

/-- Write a pattern and its flags, and go on (47_fp_single.md R418 item 4). -/
def State.finishF (s : State) (F : Fmt) (rd : FReg) (r : Flagged F) : Result := ((s.writeFmt F rd r.1).accrue r.2).retire

/-- Write an x register and flags, and go on (47_fp_single.md R418 item 4). -/
def State.finishX (s : State) (rd : XReg) (v : Word) (fl : BitVec 5) : Result := ((s.writeX rd v).accrue fl).retire

/-- The shape of a rounding instruction with two operands (47_fp_single.md R422 to R425). -/
def State.fpBinary (s : State) (F : Fmt) (i : Instr) (op : RMode → Pattern F → Pattern F → Flagged F) (rd rs1 rs2 : FReg)
    (rm : RmField) : Result :=
  s.rounding i rm fun m => s.finishF F rd (op m (s.readFmt F rs1) (s.readFmt F rs2))

/-- The shape of a rounding instruction from format F to format G with one operand (47_fp_single.md R426, 48_fp_double.md
R488, R489). -/
def State.fpUnary (s : State) (F G : Fmt) (i : Instr) (op : RMode → Pattern F → Flagged G) (rd rs1 : FReg) (rm : RmField) :
    Result :=
  s.rounding i rm fun m => s.finishF G rd (op m (s.readFmt F rs1))

/-- The shape of a fused multiply-add; the signs of the product and of the addend may be flipped (47_fp_single.md R412, R427 to
R430). -/
def State.fpFused (s : State) (F : Fmt) (i : Instr) (negProduct negAddend : Bool) (rd rs1 rs2 rs3 : FReg) (rm : RmField) :
    Result :=
  s.rounding i rm fun m => s.finishF F rd
    (fpFma F m (if negProduct then flipSign F (s.readFmt F rs1) else s.readFmt F rs1) (s.readFmt F rs2)
      (if negAddend then flipSign F (s.readFmt F rs3) else s.readFmt F rs3))

/-- The shape of an instruction with two operands that never rounds (47_fp_single.md R434, R435). -/
def State.fpPick (s : State) (F : Fmt) (op : Pattern F → Pattern F → Flagged F) (rd rs1 rs2 : FReg) : Result :=
  s.finishF F rd (op (s.readFmt F rs1) (s.readFmt F rs2))

/-- The shape of a sign injection: the sign made from the two signs, the magnitude of rs1, no flags (47_fp_single.md R431 to
R433). -/
def State.fpInject (s : State) (F : Fmt) (sign : Bool → Bool → Bool) (rd rs1 rs2 : FReg) : Result :=
  (s.writeFmt F rd (withSign F (sign (signOf F (s.readFmt F rs1)) (signOf F (s.readFmt F rs2))) (s.readFmt F rs1))).retire

/-- The shape of a comparison (47_fp_single.md R436 to R438). -/
def State.fpCompare (s : State) (F : Fmt) (op : Pattern F → Pattern F → Bool × BitVec 5) (rd : XReg) (rs1 rs2 : FReg) :
    Result :=
  s.finishX rd (ofCondition (op (s.readFmt F rs1) (s.readFmt F rs2)).1) (op (s.readFmt F rs1) (s.readFmt F rs2)).2

/-- The shape of a conversion to an integer of 32 bits, sign-extended whether or not it is signed (47_fp_single.md R416, R440,
R441). -/
def State.fpToWord (s : State) (F : Fmt) (i : Instr) (sgn : Bool) (rd : XReg) (rs1 : FReg) (rm : RmField) : Result :=
  s.rounding i rm fun m => s.finishX rd
    (sext s.xlen (BitVec.ofInt 32 (fpToInt F m (s.readFmt F rs1) 32 sgn).1)) (fpToInt F m (s.readFmt F rs1) 32 sgn).2

/-- The shape of a conversion to an integer of 64 bits, at XLEN = 64 (47_fp_single.md R442, R443). -/
def State.fpToLong (s : State) (F : Fmt) (i : Instr) (sgn : Bool) (rd : XReg) (rs1 : FReg) (rm : RmField) : Result :=
  s.onlyRv64 i <| s.rounding i rm fun m => s.finishX rd
    (ofInteger s.xlen (fpToInt F m (s.readFmt F rs1) 64 sgn).1) (fpToInt F m (s.readFmt F rs1) 64 sgn).2

/-- The shape of a conversion from an integer n (47_fp_single.md R417, R444 to R447). -/
def State.fpFromInt (s : State) (F : Fmt) (i : Instr) (n : Int) (rd : FReg) (rm : RmField) : Result :=
  s.rounding i rm fun m => s.finishF F rd (intToFp F m n)

/-- `signed(x[rs1][31:0])` (47_fp_single.md R417). -/
def State.wordSigned (s : State) (r : XReg) : Int := (lowWord (s.readX r)).toInt

/-- `unsigned(x[rs1][31:0])` (47_fp_single.md R417). -/
def State.wordUnsigned (s : State) (r : XReg) : Int := (lowWord (s.readX r)).toNat

/-- The shape of a floating-point load of n bytes; v is made from the bytes (47_fp_single.md R420, 48_fp_double.md R460). -/
def State.loadF (s : State) (n : MemSize) (make : Word → BitVec 64) (rd : FReg) (rs1 : XReg) (imm : Imm12) : Result :=
  s.access .load (s.effectiveAddr rs1 imm) n (s.writeF rd (make (s.readMem (s.effectiveAddr rs1 imm) n))).retire

end Sys2Proof.Machine
end

