-- ==== Sys2Proof/Machine/FpDouble.lean ====
section
/-! DEFINITION. The meanings of the double-precision instructions (48_fp_double.md R460 to R491). -/

namespace Sys2Proof.Machine

open Sys2Proof

/-- `fld` (48_fp_double.md R460). -/
def execFld (rd : FReg) (rs1 : XReg) (imm : Imm12) (s : State) : Result := s.loadF .double (fun v => v) rd rs1 imm

/-- `fsd` (48_fp_double.md R461). -/
def execFsd (rs1 : XReg) (rs2 : FReg) (imm : Imm12) (s : State) : Result := s.store .double (s.readF rs2) rs1 imm

/-- `fmadd.d` (48_fp_double.md R467). -/
def execFmaddD (rd rs1 rs2 rs3 : FReg) (rm : RmField) (s : State) : Result :=
  s.fpFused .double (.fmaddD rd rs1 rs2 rs3 rm) false false rd rs1 rs2 rs3 rm

/-- `fmsub.d` (48_fp_double.md R468). -/
def execFmsubD (rd rs1 rs2 rs3 : FReg) (rm : RmField) (s : State) : Result :=
  s.fpFused .double (.fmsubD rd rs1 rs2 rs3 rm) false true rd rs1 rs2 rs3 rm

/-- `fnmsub.d` (48_fp_double.md R469). -/
def execFnmsubD (rd rs1 rs2 rs3 : FReg) (rm : RmField) (s : State) : Result :=
  s.fpFused .double (.fnmsubD rd rs1 rs2 rs3 rm) true false rd rs1 rs2 rs3 rm

/-- `fnmadd.d` (48_fp_double.md R470). -/
def execFnmaddD (rd rs1 rs2 rs3 : FReg) (rm : RmField) (s : State) : Result :=
  s.fpFused .double (.fnmaddD rd rs1 rs2 rs3 rm) true true rd rs1 rs2 rs3 rm

/-- `fadd.d` (48_fp_double.md R462). -/
def execFaddD (rd rs1 rs2 : FReg) (rm : RmField) (s : State) : Result :=
  s.fpBinary .double (.faddD rd rs1 rs2 rm) (fpAdd .double) rd rs1 rs2 rm

/-- `fsub.d` (48_fp_double.md R463). -/
def execFsubD (rd rs1 rs2 : FReg) (rm : RmField) (s : State) : Result :=
  s.fpBinary .double (.fsubD rd rs1 rs2 rm) (fpSub .double) rd rs1 rs2 rm

/-- `fmul.d` (48_fp_double.md R464). -/
def execFmulD (rd rs1 rs2 : FReg) (rm : RmField) (s : State) : Result :=
  s.fpBinary .double (.fmulD rd rs1 rs2 rm) (fpMul .double) rd rs1 rs2 rm

/-- `fdiv.d` (48_fp_double.md R465). -/
def execFdivD (rd rs1 rs2 : FReg) (rm : RmField) (s : State) : Result :=
  s.fpBinary .double (.fdivD rd rs1 rs2 rm) (fpDiv .double) rd rs1 rs2 rm

/-- `fsqrt.d` (48_fp_double.md R466). -/
def execFsqrtD (rd rs1 : FReg) (rm : RmField) (s : State) : Result :=
  s.fpUnary .double .double (.fsqrtD rd rs1 rm) (fpSqrt .double) rd rs1 rm

/-- `fsgnj.d` (48_fp_double.md R471). -/
def execFsgnjD (rd rs1 rs2 : FReg) (s : State) : Result := s.fpInject .double (fun _ b => b) rd rs1 rs2

/-- `fsgnjn.d` (48_fp_double.md R472). -/
def execFsgnjnD (rd rs1 rs2 : FReg) (s : State) : Result := s.fpInject .double (fun _ b => !b) rd rs1 rs2

/-- `fsgnjx.d` (48_fp_double.md R473). -/
def execFsgnjxD (rd rs1 rs2 : FReg) (s : State) : Result := s.fpInject .double (fun a b => a ^^ b) rd rs1 rs2

/-- `fmin.d` (48_fp_double.md R474). -/
def execFminD (rd rs1 rs2 : FReg) (s : State) : Result := s.fpPick .double (fpMin .double) rd rs1 rs2

/-- `fmax.d` (48_fp_double.md R475). -/
def execFmaxD (rd rs1 rs2 : FReg) (s : State) : Result := s.fpPick .double (fpMax .double) rd rs1 rs2

/-- `fcvt.s.d` (48_fp_double.md R488). -/
def execFcvtSD (rd rs1 : FReg) (rm : RmField) (s : State) : Result :=
  s.fpUnary .double .single (.fcvtSD rd rs1 rm) (fpConvert .double .single) rd rs1 rm

/-- `fcvt.d.s` (48_fp_double.md R489). -/
def execFcvtDS (rd rs1 : FReg) (rm : RmField) (s : State) : Result :=
  s.fpUnary .single .double (.fcvtDS rd rs1 rm) (fpConvert .single .double) rd rs1 rm

/-- `feq.d` (48_fp_double.md R476). -/
def execFeqD (rd : XReg) (rs1 rs2 : FReg) (s : State) : Result := s.fpCompare .double (fpEq .double) rd rs1 rs2

/-- `flt.d` (48_fp_double.md R477). -/
def execFltD (rd : XReg) (rs1 rs2 : FReg) (s : State) : Result := s.fpCompare .double (fpLt .double) rd rs1 rs2

/-- `fle.d` (48_fp_double.md R478). -/
def execFleD (rd : XReg) (rs1 rs2 : FReg) (s : State) : Result := s.fpCompare .double (fpLe .double) rd rs1 rs2

/-- `fclass.d` (48_fp_double.md R479). -/
def execFclassD (rd : XReg) (rs1 : FReg) (s : State) : Result :=
  (s.writeX rd ((fpClass .double (s.readFmt .double rs1)).setWidth 64)).retire

/-- `fcvt.w.d` (48_fp_double.md R480). -/
def execFcvtWD (rd : XReg) (rs1 : FReg) (rm : RmField) (s : State) : Result :=
  s.fpToWord .double (.fcvtWD rd rs1 rm) true rd rs1 rm

/-- `fcvt.wu.d` (48_fp_double.md R481). -/
def execFcvtWuD (rd : XReg) (rs1 : FReg) (rm : RmField) (s : State) : Result :=
  s.fpToWord .double (.fcvtWuD rd rs1 rm) false rd rs1 rm

/-- `fcvt.l.d` (48_fp_double.md R482). -/
def execFcvtLD (rd : XReg) (rs1 : FReg) (rm : RmField) (s : State) : Result :=
  s.fpToLong .double (.fcvtLD rd rs1 rm) true rd rs1 rm

/-- `fcvt.lu.d` (48_fp_double.md R483). -/
def execFcvtLuD (rd : XReg) (rs1 : FReg) (rm : RmField) (s : State) : Result :=
  s.fpToLong .double (.fcvtLuD rd rs1 rm) false rd rs1 rm

/-- `fcvt.d.w` (48_fp_double.md R484). -/
def execFcvtDW (rd : FReg) (rs1 : XReg) (rm : RmField) (s : State) : Result :=
  s.fpFromInt .double (.fcvtDW rd rs1 rm) (s.wordSigned rs1) rd rm

/-- `fcvt.d.wu` (48_fp_double.md R485). -/
def execFcvtDWu (rd : FReg) (rs1 : XReg) (rm : RmField) (s : State) : Result :=
  s.fpFromInt .double (.fcvtDWu rd rs1 rm) (s.wordUnsigned rs1) rd rm

/-- `fcvt.d.l` (48_fp_double.md R486). -/
def execFcvtDL (rd : FReg) (rs1 : XReg) (rm : RmField) (s : State) : Result :=
  s.onlyRv64 (.fcvtDL rd rs1 rm)
    (s.fpFromInt .double (.fcvtDL rd rs1 rm) (signed s.xlen (s.readX rs1)) rd rm)

/-- `fcvt.d.lu` (48_fp_double.md R487). -/
def execFcvtDLu (rd : FReg) (rs1 : XReg) (rm : RmField) (s : State) : Result :=
  s.onlyRv64 (.fcvtDLu rd rs1 rm)
    (s.fpFromInt .double (.fcvtDLu rd rs1 rm) (unsigned s.xlen (s.readX rs1)) rd rm)

/-- `fmv.x.d` (48_fp_double.md R490). -/
def execFmvXD (rd : XReg) (rs1 : FReg) (s : State) : Result := s.onlyRv64 (.fmvXD rd rs1) (s.writeX rd (s.readF rs1)).retire

/-- `fmv.d.x` (48_fp_double.md R491). -/
def execFmvDX (rd : FReg) (rs1 : XReg) (s : State) : Result := s.onlyRv64 (.fmvDX rd rs1) (s.writeF rd (s.readX rs1)).retire

end Sys2Proof.Machine
end

