-- ==== Sys2Proof/Machine/FpSingle.lean ====
section
/-! DEFINITION. The meanings of the single-precision instructions (47_fp_single.md R420 to R449). -/

namespace Sys2Proof.Machine

open Sys2Proof

/-- `flw` (47_fp_single.md R420). -/
def execFlw (rd : FReg) (rs1 : XReg) (imm : Imm12) (s : State) : Result :=
  s.loadF .word (fun v => box (lowWord v)) rd rs1 imm

/-- `fsw` (47_fp_single.md R421): the low 32 bits, whether or not they are boxed. -/
def execFsw (rs1 : XReg) (rs2 : FReg) (imm : Imm12) (s : State) : Result := s.store .word (s.readF rs2) rs1 imm

/-- `fmadd.s` (47_fp_single.md R427). -/
def execFmaddS (rd rs1 rs2 rs3 : FReg) (rm : RmField) (s : State) : Result :=
  s.fpFused .single (.fmaddS rd rs1 rs2 rs3 rm) false false rd rs1 rs2 rs3 rm

/-- `fmsub.s` (47_fp_single.md R428). -/
def execFmsubS (rd rs1 rs2 rs3 : FReg) (rm : RmField) (s : State) : Result :=
  s.fpFused .single (.fmsubS rd rs1 rs2 rs3 rm) false true rd rs1 rs2 rs3 rm

/-- `fnmsub.s` (47_fp_single.md R429). -/
def execFnmsubS (rd rs1 rs2 rs3 : FReg) (rm : RmField) (s : State) : Result :=
  s.fpFused .single (.fnmsubS rd rs1 rs2 rs3 rm) true false rd rs1 rs2 rs3 rm

/-- `fnmadd.s` (47_fp_single.md R430). -/
def execFnmaddS (rd rs1 rs2 rs3 : FReg) (rm : RmField) (s : State) : Result :=
  s.fpFused .single (.fnmaddS rd rs1 rs2 rs3 rm) true true rd rs1 rs2 rs3 rm

/-- `fadd.s` (47_fp_single.md R422). -/
def execFaddS (rd rs1 rs2 : FReg) (rm : RmField) (s : State) : Result :=
  s.fpBinary .single (.faddS rd rs1 rs2 rm) (fpAdd .single) rd rs1 rs2 rm

/-- `fsub.s` (47_fp_single.md R423). -/
def execFsubS (rd rs1 rs2 : FReg) (rm : RmField) (s : State) : Result :=
  s.fpBinary .single (.fsubS rd rs1 rs2 rm) (fpSub .single) rd rs1 rs2 rm

/-- `fmul.s` (47_fp_single.md R424). -/
def execFmulS (rd rs1 rs2 : FReg) (rm : RmField) (s : State) : Result :=
  s.fpBinary .single (.fmulS rd rs1 rs2 rm) (fpMul .single) rd rs1 rs2 rm

/-- `fdiv.s` (47_fp_single.md R425). -/
def execFdivS (rd rs1 rs2 : FReg) (rm : RmField) (s : State) : Result :=
  s.fpBinary .single (.fdivS rd rs1 rs2 rm) (fpDiv .single) rd rs1 rs2 rm

/-- `fsqrt.s` (47_fp_single.md R426). -/
def execFsqrtS (rd rs1 : FReg) (rm : RmField) (s : State) : Result :=
  s.fpUnary .single .single (.fsqrtS rd rs1 rm) (fpSqrt .single) rd rs1 rm

/-- `fsgnj.s` (47_fp_single.md R431). -/
def execFsgnjS (rd rs1 rs2 : FReg) (s : State) : Result := s.fpInject .single (fun _ b => b) rd rs1 rs2

/-- `fsgnjn.s` (47_fp_single.md R432). -/
def execFsgnjnS (rd rs1 rs2 : FReg) (s : State) : Result := s.fpInject .single (fun _ b => !b) rd rs1 rs2

/-- `fsgnjx.s` (47_fp_single.md R433). -/
def execFsgnjxS (rd rs1 rs2 : FReg) (s : State) : Result := s.fpInject .single (fun a b => a ^^ b) rd rs1 rs2

/-- `fmin.s` (47_fp_single.md R434). -/
def execFminS (rd rs1 rs2 : FReg) (s : State) : Result := s.fpPick .single (fpMin .single) rd rs1 rs2

/-- `fmax.s` (47_fp_single.md R435). -/
def execFmaxS (rd rs1 rs2 : FReg) (s : State) : Result := s.fpPick .single (fpMax .single) rd rs1 rs2

/-- `feq.s` (47_fp_single.md R436). -/
def execFeqS (rd : XReg) (rs1 rs2 : FReg) (s : State) : Result := s.fpCompare .single (fpEq .single) rd rs1 rs2

/-- `flt.s` (47_fp_single.md R437). -/
def execFltS (rd : XReg) (rs1 rs2 : FReg) (s : State) : Result := s.fpCompare .single (fpLt .single) rd rs1 rs2

/-- `fle.s` (47_fp_single.md R438). -/
def execFleS (rd : XReg) (rs1 rs2 : FReg) (s : State) : Result := s.fpCompare .single (fpLe .single) rd rs1 rs2

/-- `fclass.s` (47_fp_single.md R439). -/
def execFclassS (rd : XReg) (rs1 : FReg) (s : State) : Result :=
  (s.writeX rd ((fpClass .single (s.readFmt .single rs1)).setWidth 64)).retire

/-- `fcvt.w.s` (47_fp_single.md R440). -/
def execFcvtWS (rd : XReg) (rs1 : FReg) (rm : RmField) (s : State) : Result :=
  s.fpToWord .single (.fcvtWS rd rs1 rm) true rd rs1 rm

/-- `fcvt.wu.s` (47_fp_single.md R441). -/
def execFcvtWuS (rd : XReg) (rs1 : FReg) (rm : RmField) (s : State) : Result :=
  s.fpToWord .single (.fcvtWuS rd rs1 rm) false rd rs1 rm

/-- `fcvt.l.s` (47_fp_single.md R442). -/
def execFcvtLS (rd : XReg) (rs1 : FReg) (rm : RmField) (s : State) : Result :=
  s.fpToLong .single (.fcvtLS rd rs1 rm) true rd rs1 rm

/-- `fcvt.lu.s` (47_fp_single.md R443). -/
def execFcvtLuS (rd : XReg) (rs1 : FReg) (rm : RmField) (s : State) : Result :=
  s.fpToLong .single (.fcvtLuS rd rs1 rm) false rd rs1 rm

/-- `fcvt.s.w` (47_fp_single.md R444). -/
def execFcvtSW (rd : FReg) (rs1 : XReg) (rm : RmField) (s : State) : Result :=
  s.fpFromInt .single (.fcvtSW rd rs1 rm) (s.wordSigned rs1) rd rm

/-- `fcvt.s.wu` (47_fp_single.md R445). -/
def execFcvtSWu (rd : FReg) (rs1 : XReg) (rm : RmField) (s : State) : Result :=
  s.fpFromInt .single (.fcvtSWu rd rs1 rm) (s.wordUnsigned rs1) rd rm

/-- `fcvt.s.l` (47_fp_single.md R446). -/
def execFcvtSL (rd : FReg) (rs1 : XReg) (rm : RmField) (s : State) : Result :=
  s.onlyRv64 (.fcvtSL rd rs1 rm)
    (s.fpFromInt .single (.fcvtSL rd rs1 rm) (signed s.xlen (s.readX rs1)) rd rm)

/-- `fcvt.s.lu` (47_fp_single.md R447). -/
def execFcvtSLu (rd : FReg) (rs1 : XReg) (rm : RmField) (s : State) : Result :=
  s.onlyRv64 (.fcvtSLu rd rs1 rm)
    (s.fpFromInt .single (.fcvtSLu rd rs1 rm) (unsigned s.xlen (s.readX rs1)) rd rm)

/-- `fmv.x.w` (47_fp_single.md R448): the raw low 32 bits. -/
def execFmvXW (rd : XReg) (rs1 : FReg) (s : State) : Result := (s.writeX rd (sext s.xlen ((s.readF rs1).setWidth 32))).retire

/-- `fmv.w.x` (47_fp_single.md R449). -/
def execFmvWX (rd : FReg) (rs1 : XReg) (s : State) : Result := (s.writeF rd (box (lowWord (s.readX rs1)))).retire

end Sys2Proof.Machine
end

