-- ==== Sys2Proof/Machine/Logic.lean ====
section
/-! DEFINITION. The meanings of the logical and shift instructions (42_logical_shift.md R260 to R279). -/

namespace Sys2Proof.Machine

open Sys2Proof

/-- `xori` (42_logical_shift.md R265). -/
def execXori (rd rs1 : XReg) (imm : Imm12) (s : State) : Result := s.opRegConst (fun a b => a ^^^ b) rd rs1 (sext s.xlen imm)

/-- `ori` (42_logical_shift.md R264). -/
def execOri (rd rs1 : XReg) (imm : Imm12) (s : State) : Result := s.opRegConst (fun a b => a ||| b) rd rs1 (sext s.xlen imm)

/-- `andi` (42_logical_shift.md R263). -/
def execAndi (rd rs1 : XReg) (imm : Imm12) (s : State) : Result := s.opRegConst (fun a b => a &&& b) rd rs1 (sext s.xlen imm)

/-- `slli` (42_logical_shift.md R269). -/
def execSlli (rd rs1 : XReg) (shamt : Shamt6) (s : State) : Result :=
  s.opShift (.slli rd rs1 shamt) (shiftLeft s.xlen) rd rs1 shamt

/-- `srli` (42_logical_shift.md R270). -/
def execSrli (rd rs1 : XReg) (shamt : Shamt6) (s : State) : Result :=
  s.opShift (.srli rd rs1 shamt) (shiftRightLogical s.xlen) rd rs1 shamt

/-- `srai` (42_logical_shift.md R271). -/
def execSrai (rd rs1 : XReg) (shamt : Shamt6) (s : State) : Result :=
  s.opShift (.srai rd rs1 shamt) (shiftRightArith s.xlen) rd rs1 shamt

/-- `sll` (42_logical_shift.md R266). -/
def execSll (rd rs1 rs2 : XReg) (s : State) : Result :=
  s.opRegReg (fun a b => shiftLeft s.xlen a (shiftAmount s.xlen b)) rd rs1 rs2

/-- `xor` (42_logical_shift.md R262). -/
def execXor (rd rs1 rs2 : XReg) (s : State) : Result := s.opRegReg (fun a b => a ^^^ b) rd rs1 rs2

/-- `srl` (42_logical_shift.md R267). -/
def execSrl (rd rs1 rs2 : XReg) (s : State) : Result :=
  s.opRegReg (fun a b => shiftRightLogical s.xlen a (shiftAmount s.xlen b)) rd rs1 rs2

/-- `sra` (42_logical_shift.md R268). -/
def execSra (rd rs1 rs2 : XReg) (s : State) : Result :=
  s.opRegReg (fun a b => shiftRightArith s.xlen a (shiftAmount s.xlen b)) rd rs1 rs2

/-- `or` (42_logical_shift.md R261). -/
def execOr (rd rs1 rs2 : XReg) (s : State) : Result := s.opRegReg (fun a b => a ||| b) rd rs1 rs2

/-- `and` (42_logical_shift.md R260). -/
def execAnd (rd rs1 rs2 : XReg) (s : State) : Result := s.opRegReg (fun a b => a &&& b) rd rs1 rs2

/-- `slliw` (42_logical_shift.md R275). -/
def execSlliw (rd rs1 : XReg) (shamt : Shamt5) (s : State) : Result :=
  s.opWordShift (.slliw rd rs1 shamt) (fun a n => a <<< n) rd rs1 shamt

/-- `srliw` (42_logical_shift.md R276). -/
def execSrliw (rd rs1 : XReg) (shamt : Shamt5) (s : State) : Result :=
  s.opWordShift (.srliw rd rs1 shamt) (fun a n => a >>> n) rd rs1 shamt

/-- `sraiw` (42_logical_shift.md R277). -/
def execSraiw (rd rs1 : XReg) (shamt : Shamt5) (s : State) : Result :=
  s.opWordShift (.sraiw rd rs1 shamt) (fun a n => a.sshiftRight n) rd rs1 shamt

/-- `sllw` (42_logical_shift.md R272). -/
def execSllw (rd rs1 rs2 : XReg) (s : State) : Result :=
  s.opWord (.sllw rd rs1 rs2) (fun a b => a <<< shiftAmountWord b) rd rs1 rs2

/-- `srlw` (42_logical_shift.md R273). -/
def execSrlw (rd rs1 rs2 : XReg) (s : State) : Result :=
  s.opWord (.srlw rd rs1 rs2) (fun a b => a >>> shiftAmountWord b) rd rs1 rs2

/-- `sraw` (42_logical_shift.md R274). -/
def execSraw (rd rs1 rs2 : XReg) (s : State) : Result :=
  s.opWord (.sraw rd rs1 rs2) (fun a b => a.sshiftRight (shiftAmountWord b)) rd rs1 rs2

end Sys2Proof.Machine
end

