-- ==== Sys2Proof/Machine/MulDiv.lean ====
section
/-! DEFINITION. The meanings of the multiply and divide instructions (45_muldiv.md R340 to R354). -/

namespace Sys2Proof.Machine

open Sys2Proof

/-- `mul` (45_muldiv.md R341). -/
def execMul (rd rs1 rs2 : XReg) (s : State) : Result :=
  s.opRegReg (fun a b => ofInteger s.xlen ((unsigned s.xlen a * unsigned s.xlen b : Nat) : Int)) rd rs1 rs2

/-- `mulh` (45_muldiv.md R342). -/
def execMulh (rd rs1 rs2 : XReg) (s : State) : Result :=
  s.opRegReg (fun a b => productHigh s.xlen (signed s.xlen a * signed s.xlen b)) rd rs1 rs2

/-- `mulhsu` (45_muldiv.md R343). -/
def execMulhsu (rd rs1 rs2 : XReg) (s : State) : Result :=
  s.opRegReg (fun a b => productHigh s.xlen (signed s.xlen a * (unsigned s.xlen b : Int))) rd rs1 rs2

/-- `mulhu` (45_muldiv.md R344). -/
def execMulhu (rd rs1 rs2 : XReg) (s : State) : Result :=
  s.opRegReg (fun a b => productHigh s.xlen ((unsigned s.xlen a : Int) * (unsigned s.xlen b : Int))) rd rs1 rs2

/-- `div` (45_muldiv.md R345). -/
def execDiv (rd rs1 rs2 : XReg) (s : State) : Result :=
  s.opRegReg (fun a b => ofInteger s.xlen (divSigned s.xlen.bits (signed s.xlen a) (signed s.xlen b))) rd rs1 rs2

/-- `divu` (45_muldiv.md R346). -/
def execDivu (rd rs1 rs2 : XReg) (s : State) : Result :=
  s.opRegReg (fun a b => ofInteger s.xlen (divUnsigned s.xlen.bits (unsigned s.xlen a) (unsigned s.xlen b))) rd rs1 rs2

/-- `rem` (45_muldiv.md R347). -/
def execRem (rd rs1 rs2 : XReg) (s : State) : Result :=
  s.opRegReg (fun a b => ofInteger s.xlen (remSigned s.xlen.bits (signed s.xlen a) (signed s.xlen b))) rd rs1 rs2

/-- `remu` (45_muldiv.md R348). -/
def execRemu (rd rs1 rs2 : XReg) (s : State) : Result :=
  s.opRegReg (fun a b => ofInteger s.xlen (remUnsigned (unsigned s.xlen a) (unsigned s.xlen b))) rd rs1 rs2

/-- `mulw` (45_muldiv.md R349). -/
def execMulw (rd rs1 rs2 : XReg) (s : State) : Result := s.opWord (.mulw rd rs1 rs2) (fun a b => a * b) rd rs1 rs2

/-- `divw` (45_muldiv.md R350). -/
def execDivw (rd rs1 rs2 : XReg) (s : State) : Result :=
  s.opWord (.divw rd rs1 rs2) (fun a b => BitVec.ofInt 32 (divSigned 32 a.toInt b.toInt)) rd rs1 rs2

/-- `divuw` (45_muldiv.md R351). -/
def execDivuw (rd rs1 rs2 : XReg) (s : State) : Result :=
  s.opWord (.divuw rd rs1 rs2) (fun a b => BitVec.ofNat 32 (divUnsigned 32 a.toNat b.toNat)) rd rs1 rs2

/-- `remw` (45_muldiv.md R352). -/
def execRemw (rd rs1 rs2 : XReg) (s : State) : Result :=
  s.opWord (.remw rd rs1 rs2) (fun a b => BitVec.ofInt 32 (remSigned 32 a.toInt b.toInt)) rd rs1 rs2

/-- `remuw` (45_muldiv.md R353). -/
def execRemuw (rd rs1 rs2 : XReg) (s : State) : Result :=
  s.opWord (.remuw rd rs1 rs2) (fun a b => BitVec.ofNat 32 (remUnsigned a.toNat b.toNat)) rd rs1 rs2

end Sys2Proof.Machine
end

