-- ==== Sys2Proof/Machine/Order.lean ====
section
/-! DEFINITION. The meanings of the memory-order and environment instructions (44_memory_order_environment.md R320 to R326). -/

namespace Sys2Proof.Machine

open Sys2Proof

/-- `fence` and `fence.tso` (44_memory_order_environment.md R320, R321): with one hart, pc + 4 and nothing else (log entry 18). -/
def execFence (_fm _pred _succ : Nibble) (_rs1 _rd : XReg) (s : State) : Result := s.retire

/-- `fence.i` (44_memory_order_environment.md R322). -/
def execFenceI (_imm : Imm12) (_rs1 _rd : XReg) (s : State) : Result := s.syncFetch.retire

/-- `ecall` (44_memory_order_environment.md R323). -/
def execEcall (_s : State) : Result := takeTrap .environmentCall 0

/-- `ebreak` (44_memory_order_environment.md R324). -/
def execEbreak (s : State) : Result := takeTrap .breakpoint s.getPc

end Sys2Proof.Machine
end

