-- ==== Sys2Proof/Machine/Transfer.lean ====
section
/-! DEFINITION. The meanings of the loads, stores and upper-immediate instructions (41_data_transfer.md R230 to R245). -/

namespace Sys2Proof.Machine

open Sys2Proof

/-- `lui` (41_data_transfer.md R244). -/
def execLui (rd : XReg) (imm : Imm20) (s : State) : Result := (s.writeX rd (immU s.xlen imm)).retire

/-- `auipc` (41_data_transfer.md R245). -/
def execAuipc (rd : XReg) (imm : Imm20) (s : State) : Result := (s.writeX rd (s.getPc + immU s.xlen imm)).retire

/-- `lb` (41_data_transfer.md R239). -/
def execLb (rd rs1 : XReg) (imm : Imm12) (s : State) : Result := s.loadX .byte (signExtendFrom .byte) rd rs1 imm

/-- `lh` (41_data_transfer.md R236). -/
def execLh (rd rs1 : XReg) (imm : Imm12) (s : State) : Result := s.loadX .half (signExtendFrom .half) rd rs1 imm

/-- `lw` (41_data_transfer.md R233). -/
def execLw (rd rs1 : XReg) (imm : Imm12) (s : State) : Result := s.loadX .word (signExtendFrom .word) rd rs1 imm

/-- `lbu` (41_data_transfer.md R240). -/
def execLbu (rd rs1 : XReg) (imm : Imm12) (s : State) : Result := s.loadX .byte (fun v => v) rd rs1 imm

/-- `lhu` (41_data_transfer.md R237). -/
def execLhu (rd rs1 : XReg) (imm : Imm12) (s : State) : Result := s.loadX .half (fun v => v) rd rs1 imm

/-- `lwu` (41_data_transfer.md R234). -/
def execLwu (rd rs1 : XReg) (imm : Imm12) (s : State) : Result :=
  s.onlyRv64 (.lwu rd rs1 imm) (s.loadX .word (fun v => v) rd rs1 imm)

/-- `ld` (41_data_transfer.md R242). -/
def execLd (rd rs1 : XReg) (imm : Imm12) (s : State) : Result :=
  s.onlyRv64 (.ld rd rs1 imm) (s.loadX .double (fun v => v) rd rs1 imm)

/-- `sb` (41_data_transfer.md R241). -/
def execSb (rs1 rs2 : XReg) (imm : Imm12) (s : State) : Result := s.store .byte (s.readX rs2) rs1 imm

/-- `sh` (41_data_transfer.md R238). -/
def execSh (rs1 rs2 : XReg) (imm : Imm12) (s : State) : Result := s.store .half (s.readX rs2) rs1 imm

/-- `sw` (41_data_transfer.md R235). -/
def execSw (rs1 rs2 : XReg) (imm : Imm12) (s : State) : Result := s.store .word (s.readX rs2) rs1 imm

/-- `sd` (41_data_transfer.md R243). -/
def execSd (rs1 rs2 : XReg) (imm : Imm12) (s : State) : Result :=
  s.onlyRv64 (.sd rs1 rs2 imm) (s.store .double (s.readX rs2) rs1 imm)

end Sys2Proof.Machine
end

