-- ==== Sys2Proof/Machine/Step.lean ====
section
/-! DEFINITION. One step of the hart (00_scope.md R9): fetch, decode, execute. And the placing of a word where the next step
fetches it. -/

namespace Sys2Proof.Machine

open Sys2Proof

/-- One step (00_scope.md R9, 60_exceptions.md R560): a next state, or Trap(E, info) as a fault. -/
def step (s : State) : Host.Outcome State Fault Refusal := s.fetchDecode (fun i => exec i s.afterFetch)

/-- The state with the instruction word w loaded at pc, as the environment loads a program before the run (60_exceptions.md
R581; log entry 13). Every row has 32 bits (30_encoding.md R120), so nbits is not needed. -/
def State.withFetchWord (s : State) (_nbits w : Nat) : State := s.loadWordAtPc (BitVec.ofNat 32 w)

end Sys2Proof.Machine
end

