-- ==== Sys2Proof/Safety.lean ====
section
/-! DEFINITION. What claims speak of: the invariant of reachable states (60_exceptions.md R564), the ends of a run (R580), safe
runs, and the vocabulary of the statements about one instruction, in integers and rational numbers as the spec writes its
rules, not in the model's operations. -/

namespace Sys2Proof.Machine

open Sys2Proof

/-- What holds of every reachable state (10_state.md R30, 60_exceptions.md R564) and of the model's own forms. -/
structure State.Inv (s : State) : Prop where
  /-- The parameters are in their domains (00_scope.md R5). -/
  params : s.params.legal = true
  /-- pc is a multiple of 4 (60_exceptions.md R564 item 2). -/
  pcAligned : s.pc.toNat % 4 = 0
  /-- pc has XLEN bits (10_state.md R32). -/
  pcWidth : s.pc.toNat < 2 ^ s.xlen.bits
  /-- x[0] = 0 (60_exceptions.md R564 item 3). -/
  xZero : s.x[0] = 0
  /-- Each x register has XLEN bits (10_state.md R30). -/
  xWidth : ∀ r : Fin 32, (s.x[r]).toNat < 2 ^ s.xlen.bits
  /-- The memory is in canonical form (log entry 9). -/
  memForm : s.mem.wf = true
  /-- Only bytes of main memory are listed (20_memory.md R71). -/
  memInside : ∀ c ∈ s.mem.cells, s.inRange c.1 = true
  /-- Only bytes of main memory are marked as stored to, none twice with one value (10_state.md R44). -/
  staleInside : ∀ c ∈ s.stale, s.inRange c.1 = true
  staleForm : s.stale.Nodup
  /-- A reservation is that of an `lr.w` or `lr.d`: aligned and in main memory (46_atomics.md R371, R372). -/
  resSize : ∀ r, s.res = some r → r.size = .word ∨ (r.size = .double ∧ s.xlen = .rv64)
  resAligned : ∀ r, s.res = some r → aligned r.addr r.size = true
  resInside : ∀ r, s.res = some r → s.insideMemory r.addr r.size.bytes = true

/-- The normal end of a run (60_exceptions.md R580): the next step is an `ecall`. -/
def State.endsNormally (s : State) : Prop := step s = .fault (.trap .environmentCall 0)

/-- An intended abnormal end (60_exceptions.md R580): the next step is an `ebreak`. -/
def State.endsAtBreakpoint (s : State) : Prop := step s = .fault (.trap .breakpoint s.getPc)

/-- A state a run from s reaches. -/
def State.Reaches (s t : State) : Prop := ∃ n, Sys2Proof.core.run n s = .next t

/-- Safe: no state that s reaches ends the run by another trap than `ecall` or `ebreak` (60_exceptions.md R580). -/
def State.Safe (s : State) : Prop :=
  ∀ t, s.Reaches t → (∃ u, step t = .next u) ∨ t.endsNormally ∨ t.endsAtBreakpoint

/-! ### Integers of the state (00_scope.md R7) -/

/-- 2^XLEN. -/
def State.modulus (s : State) : Int := 2 ^ s.xlen.bits

/-- unsigned(x[r]). -/
def State.uReg (s : State) (r : XReg) : Int := (s.readX r).toNat

/-- signed(x[r]). -/
def State.sReg (s : State) (r : XReg) : Int := if s.uReg r < 2 ^ (s.xlen.bits - 1) then s.uReg r else s.uReg r - s.modulus

/-- x[r][31:0] as an unsigned integer. -/
def State.lowReg (s : State) (r : XReg) : Int := s.uReg r % 2 ^ 32

/-- pc as an integer. -/
def State.pcInt (s : State) : Int := s.getPc.toNat

/-- The n bytes at a as an unsigned integer, the byte at the lowest address counting least (20_memory.md R76). -/
def State.bytesLE (s : State) (a : Word) (n : Nat) : Int :=
  ((List.range n).map (fun k => ((s.mem.read (s.byteAddr a k)).toNat : Int) * 256 ^ k)).sum

/-- The addresses of the n bytes at a (20_memory.md R72). -/
def State.bytesAt (s : State) (a : Word) (n : Nat) : List Nat := (List.range n).map (s.byteAddr a)

/-- Every one of the n bytes at a is in main memory (20_memory.md R71, R72). -/
def State.Inside (s : State) (a : Word) (n : Nat) : Prop :=
  ∀ q ∈ s.bytesAt a n, s.params.memBase ≤ q ∧ q < s.params.memBase + s.params.memSize

/-! ### What an instruction leaves alone -/

/-- From s to t, at most the x registers xs, the f registers fs, the bytes stored, pc, fcsr, the reservation and the count of
draws differ. -/
structure Frame (s t : State) (xs : List XReg) (fs : List FReg) (stored : List Nat) : Prop where
  params : t.params = s.params
  xRegs : ∀ r, r ∉ xs → t.readX r = s.readX r
  fRegs : ∀ r, r ∉ fs → t.readF r = s.readF r
  memory : ∀ a, a ∉ stored → t.mem.read a = s.mem.read a
  fetches : ∀ c, c.1 ∉ stored → (c ∈ t.stale ↔ c ∈ s.stale)

/-- fcsr, the reservation and the count of draws are as before. That the reservation is kept is the treatment of
93_implementation_defined.md U11 (10_state.md R52; log entry 17); the count of draws is the model's own (log entry 12). -/
def SameSpecials (s t : State) : Prop := t.fcsr = s.fcsr ∧ t.res = s.res ∧ t.draws = s.draws

/-- pc <- pc + 4 (10_state.md R33, R34). -/
def Advances (s t : State) : Prop := t.pcInt = (s.pcInt + 4) % s.modulus

/-- x[rd] <- v, the value congruent to v modulo 2^XLEN; nothing for x0, which reads 0 (10_state.md R30). -/
def Holds (s t : State) (rd : XReg) (v : Int) : Prop := (rd ≠ 0 → t.uReg rd = v % s.modulus) ∧ t.uReg 0 = 0

/-- The bytes of v stand at a, least significant first, and the bytes they replaced stay admissible for a fetch (20_memory.md
R77, R101). -/
def Stored (s t : State) (a : Word) (n : Nat) (v : Int) : Prop :=
  (∀ k < n, ((t.mem.read (s.byteAddr a k)).toNat : Int) = v / 256 ^ k % 256) ∧
  (∀ k < n, (s.byteAddr a k, s.mem.read (s.byteAddr a k)) ∈ t.stale) ∧ (∀ c ∈ s.stale, c ∈ t.stale)

/-! ### What an instruction does: its word w, its reading i, its effect -/

/-- The word w is the instruction i, and i runs: x[rd] <- v, pc <- pc + 4, nothing else. -/
def GivesX (s : State) (w : InstWord) (i : Instr) (rd : XReg) (v : Int) : Prop :=
  decode s.xlen w = .ok i ∧
  ∃ t, exec i s = .next t ∧ Holds s t rd v ∧ Advances s t ∧ Frame s t [rd] [] [] ∧ SameSpecials s t

/-- An instruction of XLEN = 64: there P holds; at XLEN = 32 the word is illegal (30_encoding.md R131). -/
def Only64 (s : State) (w : InstWord) (i : Instr) (P : Prop) : Prop :=
  (s.xlen = .rv64 → P) ∧
  (s.xlen = .rv32 → decode .rv32 w = .error .notAtThisXLen ∧
    exec i s = .fault (.trap .illegalInstruction (w.setWidth 64)))

/-- An access of n bytes at a: misaligned, outside memory, or P, checked in this order (20_memory.md R75, R72). -/
def Accesses (s : State) (w : InstWord) (i : Instr) (k : Access) (a : Word) (n : Nat) (P : Prop) : Prop :=
  decode s.xlen w = .ok i ∧
  (a.toNat % n ≠ 0 → exec i s = .fault (.trap k.misaligned a)) ∧
  (a.toNat % n = 0 → ¬ s.Inside a n → exec i s = .fault (.trap k.accessFault a)) ∧
  (a.toNat % n = 0 → s.Inside a n → P)

/-- A load of n bytes at a into x[rd], which gets v. -/
def LoadsX (s : State) (w : InstWord) (i : Instr) (a : Word) (n : Nat) (rd : XReg) (v : Int) : Prop :=
  Accesses s w i .load a n (GivesX s w i rd v)

/-- A store of the low n bytes of v at a. -/
def Stores (s : State) (w : InstWord) (i : Instr) (a : Word) (n : Nat) (v : Int) : Prop :=
  Accesses s w i .storeAMO a n
    (∃ t, exec i s = .next t ∧ Stored s t a n v ∧ Advances s t ∧ Frame s t [] [] (s.bytesAt a n) ∧ SameSpecials s t)

/-- The address of a load or store is x[rs1] plus the signed 12-bit displacement, modulo 2^XLEN (41_data_transfer.md R230). -/
def EffectiveAddress (s : State) (rs1 : XReg) (imm : Imm12) : Prop :=
  ((s.effectiveAddr rs1 imm).toNat : Int) = (s.uReg rs1 + imm.toInt) % s.modulus

/-- A transfer of control to t: there, or InstructionAddressMisaligned (43_control_transfer.md R300). -/
def Transfers (s : State) (i : Instr) (target : Int) (xs : List XReg) (P : State → Prop) : Prop :=
  (target % 4 = 0 → ∃ t, exec i s = .next t ∧ t.pcInt = target ∧ P t ∧ Frame s t xs [] [] ∧ SameSpecials s t) ∧
  (target % 4 ≠ 0 → exec i s = .fault (.trap .instructionAddressMisaligned (BitVec.ofInt 64 target)))

/-- A conditional branch (43_control_transfer.md R300, R301). -/
def Branches (s : State) (w : InstWord) (i : Instr) (off : Off13) (taken : Prop) : Prop :=
  (off.getLsbD 0 = false → decode s.xlen w = .ok i) ∧
  (taken → Transfers s i ((s.pcInt + off.toInt) % s.modulus) [] (fun _ => True)) ∧
  (¬ taken → ∃ t, exec i s = .next t ∧ Advances s t ∧ Frame s t [] [] [] ∧ SameSpecials s t)

/-- An `amo` of n bytes at a: memory gets new, x[rd] the old value, sign-extended (46_atomics.md R375). -/
def Amo (s : State) (w : InstWord) (i : Instr) (a : Word) (n : Nat) (rd : XReg) (new : Int) : Prop :=
  Accesses s w i .storeAMO a n
    (∃ t, exec i s = .next t ∧ Stored s t a n new ∧ Holds s t rd ((s.bytesLE a n).bmod (2 ^ (8 * n))) ∧ Advances s t ∧
      Frame s t [rd] [] (s.bytesAt a n) ∧ SameSpecials s t)

/-- The n bytes at a lie in the reservation set of the reservation held (46_atomics.md R373, R396). -/
def State.Eligible (s : State) (a : Word) (n : Nat) : Prop :=
  ∃ r, s.res = some r ∧ r.addr.toNat / s.params.resGrain * s.params.resGrain ≤ a.toNat ∧
    a.toNat + n ≤ r.addr.toNat / s.params.resGrain * s.params.resGrain + s.params.resGrain

/-- A store-conditional of n bytes at a (46_atomics.md R373). -/
def StoreConditional (s : State) (w : InstWord) (i : Instr) (a : Word) (n : Nat) (rd rs2 : XReg) : Prop :=
  Accesses s w i .storeAMO a n
    ((s.Eligible a n → ∃ t, exec i s = .next t ∧
      ((Stored s t a n (s.uReg rs2) ∧ Holds s t rd 0) ∨
       ((∀ q, t.mem.read q = s.mem.read q) ∧ t.stale = s.stale ∧ Holds s t rd 1)) ∧
      t.res = none ∧ Advances s t ∧ Frame s t [rd] [] (s.bytesAt a n) ∧ t.fcsr = s.fcsr) ∧
     (¬ s.Eligible a n → ∃ t, exec i s = .next t ∧ Holds s t rd 1 ∧ t.res = none ∧ Advances s t ∧
      Frame s t [rd] [] [] ∧ t.fcsr = s.fcsr))

/-- The value of a CSR from the 8 live bits of fcsr (10_state.md R37 to R39). -/
def csrView (a : CsrAddr) (c : Nat) : Nat := if a = 0x001 then c % 32 else if a = 0x002 then c / 32 else c

/-- The 8 live bits of fcsr after a write of v to a CSR (10_state.md R37 to R39). -/
def csrPut (a : CsrAddr) (c v : Nat) : Nat :=
  if a = 0x001 then c / 32 * 32 + v % 32 else if a = 0x002 then v % 8 * 32 + c % 32 else v % 256

/-- A CSR instruction: illegal for an unimplemented address; else x[rd] gets the old value, and the CSR the new value if it is
written (49_zicsr.md R520). -/
def AccessesCsr (s : State) (w : InstWord) (i : Instr) (csr : CsrAddr) (rd : XReg) (writes : Prop) (new : Nat) : Prop :=
  decode s.xlen w = .ok i ∧
  (csr ≠ 0x001 ∧ csr ≠ 0x002 ∧ csr ≠ 0x003 → exec i s = .fault (.trap .illegalInstruction (w.setWidth 64))) ∧
  (csr = 0x001 ∨ csr = 0x002 ∨ csr = 0x003 → ∃ t, exec i s = .next t ∧ Holds s t rd (csrView csr s.fcsr.toNat) ∧
    (writes → t.fcsr.toNat = csrPut csr s.fcsr.toNat new) ∧ (¬ writes → t.fcsr = s.fcsr) ∧
    Advances s t ∧ Frame s t [rd] [] [] ∧ t.res = s.res ∧ t.draws = s.draws)

/-! ### Floating point -/

/-- The code of a rounding mode (47_fp_single.md R404). -/
def RMode.code : RMode → BitVec 3
  | .rne => 0b000
  | .rtz => 0b001
  | .rdn => 0b010
  | .rup => 0b011
  | .rmm => 0b100

/-- The field rm with the register frm selects mode m (47_fp_single.md R405). -/
def Selects (rm frm : BitVec 3) (m : RMode) : Prop := rm = m.code ∨ (rm = 0b111 ∧ frm = m.code)

/-- An instruction with a rounding-mode field: P in the mode selected, illegal where none is (47_fp_single.md R405). -/
def InMode (s : State) (w : InstWord) (i : Instr) (rm : RmField) (P : RMode → Prop) : Prop :=
  decode s.xlen w = .ok i ∧ (∀ m, Selects rm s.frm m → P m) ∧
  ((∀ m, ¬ Selects rm s.frm m) → exec i s = .fault (.trap .illegalInstruction (w.setWidth 64)))

/-- A result as an f register holds it: a single with 32 ones above it (47_fp_single.md R401). -/
def boxed : (F : Fmt) → Pattern F → BitVec 64
  | .single, v => 0xffffffff#32 ++ v
  | .double, v => v

/-- f[rd] <- the boxed pattern, flags ORed into fflags, pc <- pc + 4, nothing else (47_fp_single.md R402, R418). -/
def GivesF (s : State) (w : InstWord) (i : Instr) (F : Fmt) (rd : FReg) (r : Flagged F) : Prop :=
  decode s.xlen w = .ok i ∧
  ∃ t, exec i s = .next t ∧ t.readF rd = boxed F r.1 ∧ t.fflags = s.fflags ||| r.2 ∧ t.frm = s.frm ∧ Advances s t ∧
    Frame s t [] [rd] [] ∧ t.res = s.res ∧ t.draws = s.draws

/-- x[rd] <- v, flags ORed into fflags, pc <- pc + 4, nothing else (47_fp_single.md R418). -/
def GivesXFlags (s : State) (w : InstWord) (i : Instr) (rd : XReg) (v : Int) (fl : BitVec 5) : Prop :=
  decode s.xlen w = .ok i ∧
  ∃ t, exec i s = .next t ∧ Holds s t rd v ∧ t.fflags = s.fflags ||| fl ∧ t.frm = s.frm ∧ Advances s t ∧
    Frame s t [rd] [] [] ∧ t.res = s.res ∧ t.draws = s.draws

/-- The rational number of a fraction. -/
def Frac.toRat (v : Frac) : ℚ := (v.num : ℚ) / (v.den : ℚ)

/-- Not an infinity and not a NaN (47_fp_single.md R400). -/
def isFinite (F : Fmt) (a : Pattern F) : Prop := expField F a ≠ F.expOnes

/-- The number a finite pattern denotes (47_fp_single.md R400). -/
def ratOf (F : Fmt) (a : Pattern F) : ℚ :=
  (if signOf F a then -1 else 1) *
    (if expField F a = 0 then (fracField F a : ℚ) * (2 : ℚ) ^ (F.emin - F.prec + 1)
     else (2 ^ (F.prec - 1) + fracField F a : ℚ) * (2 : ℚ) ^ ((expField F a : Int) - F.emax - F.prec + 1))

/-- The extended real of a pattern that is not a NaN (47_fp_single.md R414). -/
def extRat (F : Fmt) (a : Pattern F) : WithBot (WithTop ℚ) :=
  if isInf F a then (if signOf F a then ⊥ else ((⊤ : WithTop ℚ) : WithBot (WithTop ℚ)))
  else ((ratOf F a : WithTop ℚ) : WithBot (WithTop ℚ))

/-- The sets of flags one operation may raise (47_fp_single.md R406). -/
def LegalFlags (fl : BitVec 5) : Prop :=
  fl = flagNone ∨ fl = flagNV ∨ fl = flagDZ ∨ fl = flagNX ∨ fl = flagOF ||| flagNX ∨ fl = flagUF ||| flagNX

/-- n is x rounded to an integer in mode m (47_fp_single.md R404). -/
def RoundsToInt (m : RMode) (x : ℚ) (n : Int) : Prop :=
  match m with
  | .rtz => n = if 0 ≤ x then ⌊x⌋ else ⌈x⌉
  | .rdn => n = ⌊x⌋
  | .rup => n = ⌈x⌉
  | .rne => |x - n| < 1 / 2 ∨ (|x - n| = 1 / 2 ∧ n % 2 = 0)
  | .rmm => |x - n| < 1 / 2 ∨ (|x - n| = 1 / 2 ∧ |x| < |(n : ℚ)|)

/-- The exceptions of its own that an instruction can raise (60_exceptions.md R582). -/
def exceptionsOf : Instr → List Exception
  | .lui .. | .auipc .. | .addi .. | .slti .. | .sltiu .. | .xori .. | .ori .. | .andi .. | .slli .. | .srli ..
    | .srai .. | .add .. | .sub .. | .sll .. | .slt .. | .sltu .. | .xor .. | .srl .. | .sra .. | .or .. | .and ..
    | .fence .. | .fenceI .. | .addiw .. | .slliw .. | .srliw .. | .sraiw .. | .addw .. | .subw .. | .sllw ..
    | .srlw .. | .sraw .. | .mul .. | .mulh .. | .mulhsu .. | .mulhu .. | .div .. | .divu .. | .rem .. | .remu ..
    | .mulw .. | .divw .. | .divuw .. | .remw .. | .remuw .. | .fsgnjS .. | .fsgnjnS .. | .fsgnjxS .. | .fminS ..
    | .fmaxS .. | .fmvXW .. | .feqS .. | .fltS .. | .fleS .. | .fclassS .. | .fmvWX .. | .fsgnjD .. | .fsgnjnD ..
    | .fsgnjxD .. | .fminD .. | .fmaxD .. | .feqD .. | .fltD .. | .fleD .. | .fclassD .. | .fmvXD .. | .fmvDX .. => []
  | .jal .. | .jalr .. | .beq .. | .bne .. | .blt .. | .bge .. | .bltu .. | .bgeu .. => [.instructionAddressMisaligned]
  | .lb .. | .lbu .. => [.loadAccessFault]
  | .lh .. | .lw .. | .lhu .. | .lwu .. | .ld .. | .lrW .. | .lrD .. | .flw .. | .fld .. => [.loadAddressMisaligned, .loadAccessFault]
  | .sb .. => [.storeAMOAccessFault]
  | .sh .. | .sw .. | .sd .. | .scW .. | .scD .. | .amoswapW .. | .amoswapD .. | .amoaddW .. | .amoaddD ..
    | .amoxorW .. | .amoxorD .. | .amoandW .. | .amoandD .. | .amoorW .. | .amoorD .. | .amominW .. | .amominD ..
    | .amomaxW .. | .amomaxD .. | .amominuW .. | .amominuD .. | .amomaxuW .. | .amomaxuD .. | .fsw .. | .fsd .. => [.storeAMOAddressMisaligned, .storeAMOAccessFault]
  | .ecall => [.environmentCall]
  | .ebreak => [.breakpoint]
  | .fmaddS .. | .fmsubS .. | .fnmsubS .. | .fnmaddS .. | .faddS .. | .fsubS .. | .fmulS .. | .fdivS .. | .fsqrtS ..
    | .fcvtWS .. | .fcvtWuS .. | .fcvtSW .. | .fcvtSWu .. | .fcvtLS .. | .fcvtLuS .. | .fcvtSL .. | .fcvtSLu ..
    | .fmaddD .. | .fmsubD .. | .fnmsubD .. | .fnmaddD .. | .faddD .. | .fsubD .. | .fmulD .. | .fdivD .. | .fsqrtD ..
    | .fcvtSD .. | .fcvtDS .. | .fcvtWD .. | .fcvtWuD .. | .fcvtDW .. | .fcvtDWu .. | .fcvtLD .. | .fcvtLuD ..
    | .fcvtDL .. | .fcvtDLu .. | .csrrw .. | .csrrs .. | .csrrc .. | .csrrwi .. | .csrrsi .. | .csrrci .. => [.illegalInstruction]

/-- The CSR instructions (49_zicsr.md). -/
def isCsrInstr : Instr → Bool
  | .csrrw .. | .csrrs .. | .csrrc .. | .csrrwi .. | .csrrsi .. | .csrrci .. => true
  | _ => false

end Sys2Proof.Machine
end

