-- ==== Sys2Proof/Certificates/Slice0/Obligations.lean ====
section
/-! DEFINITION. The statements for the provers. They are written with the vocabulary of Sys2Proof/Safety.lean. -/

open Sys2Proof Sys2Proof.Machine

/-- add, sub, slt, sltu, addi, slti, sltiu write the sum, difference or comparison to x[rd], and nothing else. Cites R201,
R202, R203, R204, R205, R206, R207. -/
def Obligations.ArithmeticGivesItsResult : Prop :=
  ∀ (s : State) (rd rs1 rs2 : XReg) (imm : Imm12),
  GivesX s (encR 0b0000000 rs2 rs1 0b000 rd 0b0110011)
    (.add rd rs1 rs2) rd (s.uReg rs1 + s.uReg rs2) ∧
  GivesX s (encR 0b0100000 rs2 rs1 0b000 rd 0b0110011)
    (.sub rd rs1 rs2) rd (s.uReg rs1 - s.uReg rs2) ∧
  GivesX s (encR 0b0000000 rs2 rs1 0b010 rd 0b0110011)
    (.slt rd rs1 rs2) rd (if s.sReg rs1 < s.sReg rs2 then 1 else 0) ∧
  GivesX s (encR 0b0000000 rs2 rs1 0b011 rd 0b0110011)
    (.sltu rd rs1 rs2) rd (if s.uReg rs1 < s.uReg rs2 then 1 else 0) ∧
  GivesX s (encI imm rs1 0b000 rd 0b0010011)
    (.addi rd rs1 imm) rd (s.uReg rs1 + imm.toInt) ∧
  GivesX s (encI imm rs1 0b010 rd 0b0010011)
    (.slti rd rs1 imm) rd (if s.sReg rs1 < imm.toInt then 1 else 0) ∧
  GivesX s (encI imm rs1 0b011 rd 0b0010011)
    (.sltiu rd rs1 imm) rd (if s.uReg rs1 < imm.toInt % s.modulus then 1 else 0)

/-- addiw, addw and subw give the 32-bit result sign-extended at XLEN = 64 and are illegal at XLEN = 32. Cites R208, R209,
R210. -/
def Obligations.WordArithmeticSignExtends : Prop :=
  ∀ (s : State) (rd rs1 rs2 : XReg) (imm : Imm12),
  Only64 s (encI imm rs1 0b000 rd 0b0011011) (.addiw rd rs1 imm)
    (GivesX s (encI imm rs1 0b000 rd 0b0011011)
    (.addiw rd rs1 imm) rd ((s.uReg rs1 + imm.toInt).bmod (2 ^ 32))) ∧
  Only64 s (encR 0b0000000 rs2 rs1 0b000 rd 0b0111011) (.addw rd rs1 rs2)
    (GivesX s (encR 0b0000000 rs2 rs1 0b000 rd 0b0111011)
    (.addw rd rs1 rs2) rd ((s.uReg rs1 + s.uReg rs2).bmod (2 ^ 32))) ∧
  Only64 s (encR 0b0100000 rs2 rs1 0b000 rd 0b0111011) (.subw rd rs1 rs2)
    (GivesX s (encR 0b0100000 rs2 rs1 0b000 rd 0b0111011)
    (.subw rd rs1 rs2) rd ((s.uReg rs1 - s.uReg rs2).bmod (2 ^ 32)))

/-- lb, lh, lw sign-extend and lbu, lhu, lwu zero-extend the little-endian bytes at x[rs1] + imm, or trap. Cites R233, R234,
R236, R237, R239, R240, R242. -/
def Obligations.LoadsGiveTheBytesInMemory : Prop :=
  ∀ (s : State) (rd rs1 : XReg) (imm : Imm12),
  EffectiveAddress s rs1 imm ∧
  LoadsX s (encI imm rs1 0b000 rd 0b0000011) (.lb rd rs1 imm) (s.effectiveAddr rs1 imm) 1 rd
    ((s.bytesLE (s.effectiveAddr rs1 imm) 1).bmod (2 ^ 8)) ∧
  LoadsX s (encI imm rs1 0b001 rd 0b0000011) (.lh rd rs1 imm) (s.effectiveAddr rs1 imm) 2 rd
    ((s.bytesLE (s.effectiveAddr rs1 imm) 2).bmod (2 ^ 16)) ∧
  LoadsX s (encI imm rs1 0b010 rd 0b0000011) (.lw rd rs1 imm) (s.effectiveAddr rs1 imm) 4 rd
    ((s.bytesLE (s.effectiveAddr rs1 imm) 4).bmod (2 ^ 32)) ∧
  LoadsX s (encI imm rs1 0b100 rd 0b0000011) (.lbu rd rs1 imm) (s.effectiveAddr rs1 imm) 1 rd
    (s.bytesLE (s.effectiveAddr rs1 imm) 1) ∧
  LoadsX s (encI imm rs1 0b101 rd 0b0000011) (.lhu rd rs1 imm) (s.effectiveAddr rs1 imm) 2 rd
    (s.bytesLE (s.effectiveAddr rs1 imm) 2) ∧
  Only64 s (encI imm rs1 0b110 rd 0b0000011) (.lwu rd rs1 imm)
    (LoadsX s (encI imm rs1 0b110 rd 0b0000011) (.lwu rd rs1 imm) (s.effectiveAddr rs1 imm) 4 rd
    (s.bytesLE (s.effectiveAddr rs1 imm) 4)) ∧
  Only64 s (encI imm rs1 0b011 rd 0b0000011) (.ld rd rs1 imm)
    (LoadsX s (encI imm rs1 0b011 rd 0b0000011) (.ld rd rs1 imm) (s.effectiveAddr rs1 imm) 8 rd
    (s.bytesLE (s.effectiveAddr rs1 imm) 8))

/-- sb, sh, sw, sd write the low 1, 2, 4, 8 bytes of x[rs2] little-endian at x[rs1] + imm and nothing else, or trap. Cites
R235, R238, R241, R243. -/
def Obligations.StoresWriteTheirBytesOnly : Prop :=
  ∀ (s : State) (rs1 rs2 : XReg) (imm : Imm12),
  EffectiveAddress s rs1 imm ∧
  Stores s (encS imm rs2 rs1 0b000 0b0100011) (.sb rs1 rs2 imm) (s.effectiveAddr rs1 imm) 1 (s.uReg rs2) ∧
  Stores s (encS imm rs2 rs1 0b001 0b0100011) (.sh rs1 rs2 imm) (s.effectiveAddr rs1 imm) 2 (s.uReg rs2) ∧
  Stores s (encS imm rs2 rs1 0b010 0b0100011) (.sw rs1 rs2 imm) (s.effectiveAddr rs1 imm) 4 (s.uReg rs2) ∧
  Only64 s (encS imm rs2 rs1 0b011 0b0100011) (.sd rs1 rs2 imm)
    (Stores s (encS imm rs2 rs1 0b011 0b0100011) (.sd rs1 rs2 imm) (s.effectiveAddr rs1 imm) 8 (s.uReg rs2))

/-- lui writes the 20-bit constant shifted left 12 bits and sign-extended; auipc adds it to its own pc. Cites R244, R245. -/
def Obligations.UpperImmediatesGiveTheirConstant : Prop :=
  ∀ (s : State) (rd : XReg) (imm : Imm20),
  GivesX s (encU imm rd 0b0110111)
    (.lui rd imm) rd (imm.toInt * 4096) ∧
  GivesX s (encU imm rd 0b0010111)
    (.auipc rd imm) rd (s.pcInt + imm.toInt * 4096)

/-- and, or, xor and their immediate forms act bit by bit, the immediate sign-extended to XLEN. Cites R260, R261, R262, R263,
R264, R265. -/
def Obligations.LogicalInstructionsActBitwise : Prop :=
  ∀ (s : State) (rd rs1 rs2 : XReg) (imm : Imm12),
  GivesX s (encR 0b0000000 rs2 rs1 0b111 rd 0b0110011)
    (.and rd rs1 rs2) rd ((((s.uReg rs1).toNat &&& (s.uReg rs2).toNat : Nat) : Int)) ∧
  GivesX s (encR 0b0000000 rs2 rs1 0b110 rd 0b0110011)
    (.or rd rs1 rs2) rd ((((s.uReg rs1).toNat ||| (s.uReg rs2).toNat : Nat) : Int)) ∧
  GivesX s (encR 0b0000000 rs2 rs1 0b100 rd 0b0110011)
    (.xor rd rs1 rs2) rd ((((s.uReg rs1).toNat ^^^ (s.uReg rs2).toNat : Nat) : Int)) ∧
  GivesX s (encI imm rs1 0b111 rd 0b0010011)
    (.andi rd rs1 imm) rd ((((s.uReg rs1).toNat &&& (imm.toInt % s.modulus).toNat : Nat) : Int)) ∧
  GivesX s (encI imm rs1 0b110 rd 0b0010011)
    (.ori rd rs1 imm) rd ((((s.uReg rs1).toNat ||| (imm.toInt % s.modulus).toNat : Nat) : Int)) ∧
  GivesX s (encI imm rs1 0b100 rd 0b0010011)
    (.xori rd rs1 imm) rd ((((s.uReg rs1).toNat ^^^ (imm.toInt % s.modulus).toNat : Nat) : Int))

/-- sll, srl, sra, slli, srli, srai multiply or divide by 2^amount, rounding down, the amount below XLEN. Cites R266, R267,
R268, R269, R270, R271. -/
def Obligations.ShiftsMultiplyAndDivide : Prop :=
  ∀ (s : State) (rd rs1 rs2 : XReg) (shamt : Shamt6),
  GivesX s (encR 0b0000000 rs2 rs1 0b001 rd 0b0110011)
    (.sll rd rs1 rs2) rd (s.uReg rs1 * 2 ^ (s.uReg rs2 % s.xlen.bits).toNat) ∧
  GivesX s (encR 0b0000000 rs2 rs1 0b101 rd 0b0110011)
    (.srl rd rs1 rs2) rd (s.uReg rs1 / 2 ^ (s.uReg rs2 % s.xlen.bits).toNat) ∧
  GivesX s (encR 0b0100000 rs2 rs1 0b101 rd 0b0110011)
    (.sra rd rs1 rs2) rd (s.sReg rs1 / 2 ^ (s.uReg rs2 % s.xlen.bits).toNat) ∧
  (shamt.toNat < s.xlen.bits →
  GivesX s (encShamt6 0b000000 shamt rs1 0b001 rd 0b0010011)
    (.slli rd rs1 shamt) rd (s.uReg rs1 * 2 ^ shamt.toNat) ∧
  GivesX s (encShamt6 0b000000 shamt rs1 0b101 rd 0b0010011)
    (.srli rd rs1 shamt) rd (s.uReg rs1 / 2 ^ shamt.toNat) ∧
  GivesX s (encShamt6 0b010000 shamt rs1 0b101 rd 0b0010011)
    (.srai rd rs1 shamt) rd (s.sReg rs1 / 2 ^ shamt.toNat)) ∧
  (¬ shamt.toNat < s.xlen.bits →
  decode s.xlen (encShamt6 0b000000 shamt rs1 0b001 rd 0b0010011) = .error .notAtThisXLen ∧
    exec (.slli rd rs1 shamt) s = .fault (.trap .illegalInstruction ((encShamt6 0b000000 shamt rs1 0b001 rd 0b0010011).setWidth 64)) ∧
  decode s.xlen (encShamt6 0b000000 shamt rs1 0b101 rd 0b0010011) = .error .notAtThisXLen ∧
    exec (.srli rd rs1 shamt) s = .fault (.trap .illegalInstruction ((encShamt6 0b000000 shamt rs1 0b101 rd 0b0010011).setWidth 64)) ∧
  decode s.xlen (encShamt6 0b010000 shamt rs1 0b101 rd 0b0010011) = .error .notAtThisXLen ∧
    exec (.srai rd rs1 shamt) s = .fault (.trap .illegalInstruction ((encShamt6 0b010000 shamt rs1 0b101 rd 0b0010011).setWidth 64)))

/-- sllw, srlw, sraw and their immediate forms shift the low word by 5 bits of amount and sign-extend. Cites R272, R273, R274,
R275, R276, R277. -/
def Obligations.WordShiftsSignExtend : Prop :=
  ∀ (s : State) (rd rs1 rs2 : XReg) (shamt : Shamt5),
  Only64 s (encR 0b0000000 rs2 rs1 0b001 rd 0b0111011) (.sllw rd rs1 rs2)
    (GivesX s (encR 0b0000000 rs2 rs1 0b001 rd 0b0111011)
    (.sllw rd rs1 rs2) rd ((s.lowReg rs1 * 2 ^ (s.uReg rs2 % 32).toNat).bmod (2 ^ 32))) ∧
  Only64 s (encR 0b0000000 rs2 rs1 0b101 rd 0b0111011) (.srlw rd rs1 rs2)
    (GivesX s (encR 0b0000000 rs2 rs1 0b101 rd 0b0111011)
    (.srlw rd rs1 rs2) rd ((s.lowReg rs1 / 2 ^ (s.uReg rs2 % 32).toNat).bmod (2 ^ 32))) ∧
  Only64 s (encR 0b0100000 rs2 rs1 0b101 rd 0b0111011) (.sraw rd rs1 rs2)
    (GivesX s (encR 0b0100000 rs2 rs1 0b101 rd 0b0111011)
    (.sraw rd rs1 rs2) rd ((s.lowReg rs1).bmod (2 ^ 32) / 2 ^ (s.uReg rs2 % 32).toNat)) ∧
  Only64 s (encR 0b0000000 shamt rs1 0b001 rd 0b0011011) (.slliw rd rs1 shamt)
    (GivesX s (encR 0b0000000 shamt rs1 0b001 rd 0b0011011)
    (.slliw rd rs1 shamt) rd ((s.lowReg rs1 * 2 ^ shamt.toNat).bmod (2 ^ 32))) ∧
  Only64 s (encR 0b0000000 shamt rs1 0b101 rd 0b0011011) (.srliw rd rs1 shamt)
    (GivesX s (encR 0b0000000 shamt rs1 0b101 rd 0b0011011)
    (.srliw rd rs1 shamt) rd ((s.lowReg rs1 / 2 ^ shamt.toNat).bmod (2 ^ 32))) ∧
  Only64 s (encR 0b0100000 shamt rs1 0b101 rd 0b0011011) (.sraiw rd rs1 shamt)
    (GivesX s (encR 0b0100000 shamt rs1 0b101 rd 0b0011011)
    (.sraiw rd rs1 shamt) rd ((s.lowReg rs1).bmod (2 ^ 32) / 2 ^ shamt.toNat))

/-- A branch whose condition holds goes to pc + offset or traps if that is misaligned; else pc + 4. Cites R301, R302, R303,
R304, R305, R306. -/
def Obligations.BranchesGoToTheirTargetOrOn : Prop :=
  ∀ (s : State) (rs1 rs2 : XReg) (off : Off13),
  Branches s (encB off rs2 rs1 0b000 0b1100011) (.beq rs1 rs2 off) off
    (s.uReg rs1 = s.uReg rs2) ∧
  Branches s (encB off rs2 rs1 0b001 0b1100011) (.bne rs1 rs2 off) off
    (s.uReg rs1 ≠ s.uReg rs2) ∧
  Branches s (encB off rs2 rs1 0b100 0b1100011) (.blt rs1 rs2 off) off
    (s.sReg rs1 < s.sReg rs2) ∧
  Branches s (encB off rs2 rs1 0b101 0b1100011) (.bge rs1 rs2 off) off
    (s.sReg rs2 ≤ s.sReg rs1) ∧
  Branches s (encB off rs2 rs1 0b110 0b1100011) (.bltu rs1 rs2 off) off
    (s.uReg rs1 < s.uReg rs2) ∧
  Branches s (encB off rs2 rs1 0b111 0b1100011) (.bgeu rs1 rs2 off) off
    (s.uReg rs2 ≤ s.uReg rs1)

/-- jal and jalr write the link pc + 4 and go to their target, or trap with rd unwritten if it is misaligned. Cites R307,
R308. -/
def Obligations.JumpsLinkAndTransfer : Prop :=
  ∀ (s : State) (rd rs1 : XReg) (off : Off21) (imm : Imm12),
  (off.getLsbD 0 = false → decode s.xlen (encJ off rd 0b1101111) = .ok (.jal rd off)) ∧
  Transfers s (.jal rd off) ((s.pcInt + off.toInt) % s.modulus) [rd] (fun t => Holds s t rd (s.pcInt + 4)) ∧
  decode s.xlen (encI imm rs1 0b000 rd 0b1100111) = .ok (.jalr rd rs1 imm) ∧
  Transfers s (.jalr rd rs1 imm) ((s.uReg rs1 + imm.toInt) % s.modulus / 2 * 2) [rd] (fun t => Holds s t rd (s.pcInt + 4))

/-- fence only advances pc (one hart: log entries 2, 18); after fence.i bytes are fetched as memory holds them. Cites
44_memory_order_environment.md R320, 44_memory_order_environment.md R322, 20_memory.md R90. -/
def Obligations.FencesAdvanceAndSynchroniseFetches : Prop :=
  ∀ (s : State) (fm pred succ : Nibble) (imm : Imm12) (rs1 rd : XReg),
  decode s.xlen (encI (fm ++ pred ++ succ) rs1 0b000 rd 0b0001111) = .ok (.fence fm pred succ rs1 rd) ∧
  (∃ t, exec (.fence fm pred succ rs1 rd) s = .next t ∧ Advances s t ∧ Frame s t [] [] [] ∧ SameSpecials s t) ∧
  decode s.xlen (encI imm rs1 0b001 rd 0b0001111) = .ok (.fenceI imm rs1 rd) ∧
  ∃ t, exec (.fenceI imm rs1 rd) s = .next t ∧ Advances s t ∧ t.stale = [] ∧ (∀ a k, t.fetchByte a k = s.mem.read a) ∧
    (∀ r, t.readX r = s.readX r) ∧ (∀ r, t.readF r = s.readF r) ∧ (∀ a, t.mem.read a = s.mem.read a) ∧
    t.params = s.params ∧ SameSpecials s t

/-- ecall always stops with EnvironmentCall(0), ebreak with Breakpoint(pc). Cites R323, R324. -/
def Obligations.EcallAndEbreakEndTheRun : Prop :=
  ∀ s : State,
  decode s.xlen 0x00000073 = .ok .ecall ∧ exec .ecall s = .fault (.trap .environmentCall 0) ∧ Exception.environmentCall.code = 11 ∧
  decode s.xlen 0x00100073 = .ok .ebreak ∧ exec .ebreak s = .fault (.trap .breakpoint s.getPc) ∧ Exception.breakpoint.code = 3

/-- mul gives the low half of the product; mulh, mulhsu, mulhu the high half, signed, mixed, unsigned. Cites R341, R342, R343,
R344. -/
def Obligations.MultiplyGivesTheProductHalves : Prop :=
  ∀ (s : State) (rd rs1 rs2 : XReg),
  GivesX s (encR 0b0000001 rs2 rs1 0b000 rd 0b0110011)
    (.mul rd rs1 rs2) rd (s.uReg rs1 * s.uReg rs2) ∧
  GivesX s (encR 0b0000001 rs2 rs1 0b001 rd 0b0110011)
    (.mulh rd rs1 rs2) rd (s.sReg rs1 * s.sReg rs2 / s.modulus) ∧
  GivesX s (encR 0b0000001 rs2 rs1 0b010 rd 0b0110011)
    (.mulhsu rd rs1 rs2) rd (s.sReg rs1 * s.uReg rs2 / s.modulus) ∧
  GivesX s (encR 0b0000001 rs2 rs1 0b011 rd 0b0110011)
    (.mulhu rd rs1 rs2) rd (s.uReg rs1 * s.uReg rs2 / s.modulus)

/-- div, divu, rem, remu truncate toward zero; by zero they give all ones or the dividend, and never trap. Cites R345, R346,
R347, R348. -/
def Obligations.DivideGivesQuotientAndRemainder : Prop :=
  ∀ (s : State) (rd rs1 rs2 : XReg),
  GivesX s (encR 0b0000001 rs2 rs1 0b100 rd 0b0110011)
    (.div rd rs1 rs2) rd (if s.uReg rs2 = 0 then -1 else (s.sReg rs1).tdiv (s.sReg rs2)) ∧
  GivesX s (encR 0b0000001 rs2 rs1 0b101 rd 0b0110011)
    (.divu rd rs1 rs2) rd (if s.uReg rs2 = 0 then s.modulus - 1 else s.uReg rs1 / s.uReg rs2) ∧
  GivesX s (encR 0b0000001 rs2 rs1 0b110 rd 0b0110011)
    (.rem rd rs1 rs2) rd (if s.uReg rs2 = 0 then s.uReg rs1 else s.sReg rs1 - s.sReg rs2 * (s.sReg rs1).tdiv (s.sReg rs2)) ∧
  GivesX s (encR 0b0000001 rs2 rs1 0b111 rd 0b0110011)
    (.remu rd rs1 rs2) rd (if s.uReg rs2 = 0 then s.uReg rs1 else s.uReg rs1 % s.uReg rs2)

/-- mulw, divw, divuw, remw, remuw work on the low words and sign-extend the 32-bit result, unsigned forms too. Cites R349,
R350, R351, R352, R353. -/
def Obligations.WordMultiplyDivideSignExtend : Prop :=
  ∀ (s : State) (rd rs1 rs2 : XReg),
  Only64 s (encR 0b0000001 rs2 rs1 0b000 rd 0b0111011) (.mulw rd rs1 rs2)
    (GivesX s (encR 0b0000001 rs2 rs1 0b000 rd 0b0111011)
    (.mulw rd rs1 rs2) rd ((s.lowReg rs1 * s.lowReg rs2).bmod (2 ^ 32))) ∧
  Only64 s (encR 0b0000001 rs2 rs1 0b100 rd 0b0111011) (.divw rd rs1 rs2)
    (GivesX s (encR 0b0000001 rs2 rs1 0b100 rd 0b0111011)
    (.divw rd rs1 rs2) rd (if s.lowReg rs2 = 0 then -1 else (((s.lowReg rs1).bmod (2 ^ 32)).tdiv (((s.lowReg rs2).bmod (2 ^ 32)))).bmod (2 ^ 32))) ∧
  Only64 s (encR 0b0000001 rs2 rs1 0b101 rd 0b0111011) (.divuw rd rs1 rs2)
    (GivesX s (encR 0b0000001 rs2 rs1 0b101 rd 0b0111011)
    (.divuw rd rs1 rs2) rd (if s.lowReg rs2 = 0 then -1 else (s.lowReg rs1 / s.lowReg rs2).bmod (2 ^ 32))) ∧
  Only64 s (encR 0b0000001 rs2 rs1 0b110 rd 0b0111011) (.remw rd rs1 rs2)
    (GivesX s (encR 0b0000001 rs2 rs1 0b110 rd 0b0111011)
    (.remw rd rs1 rs2) rd (if s.lowReg rs2 = 0 then ((s.lowReg rs1).bmod (2 ^ 32)) else (((s.lowReg rs1).bmod (2 ^ 32)) - ((s.lowReg rs2).bmod (2 ^ 32)) * ((s.lowReg rs1).bmod (2 ^ 32)).tdiv (((s.lowReg rs2).bmod (2 ^ 32)))).bmod (2 ^ 32))) ∧
  Only64 s (encR 0b0000001 rs2 rs1 0b111 rd 0b0111011) (.remuw rd rs1 rs2)
    (GivesX s (encR 0b0000001 rs2 rs1 0b111 rd 0b0111011)
    (.remuw rd rs1 rs2) rd (if s.lowReg rs2 = 0 then ((s.lowReg rs1).bmod (2 ^ 32)) else (s.lowReg rs1 % s.lowReg rs2).bmod (2 ^ 32)))

/-- Quotient times divisor plus remainder is the dividend modulo 2^L, corner cases included (R354). Cites 45_muldiv.md R354,
45_muldiv.md Laws. -/
def Obligations.DivisionIdentityHoldsAlways : Prop :=
  ∀ w : Nat, 1 ≤ w →
  (∀ a b : Int, -(2 : Int) ^ (w - 1) ≤ a → a < 2 ^ (w - 1) → -(2 : Int) ^ (w - 1) ≤ b → b < 2 ^ (w - 1) →
    (b * divSigned w a b + remSigned w a b) % 2 ^ w = a % 2 ^ w ∧
    (b ≠ 0 → |remSigned w a b| < |b| ∧ 0 ≤ remSigned w a b * a)) ∧
  (∀ a b : Nat, a < 2 ^ w → b < 2 ^ w →
    (b * divUnsigned w a b + remUnsigned a b) % 2 ^ w = a ∧ (b ≠ 0 → remUnsigned a b < b))

/-- lr.w and lr.d load the sign-extended bytes at x[rs1] and reserve (address, size), or trap. Cites R371, R372. -/
def Obligations.LoadReservedReservesAndLoads : Prop :=
  ∀ (s : State) (rd rs1 : XReg) (aq rl : Bool),
  Accesses s (encAmo 0b00010 aq rl 0 rs1 0b010 rd) (.lrW rd rs1 aq rl) .load (s.readX rs1) 4
    (∃ t, exec (.lrW rd rs1 aq rl) s = .next t ∧ Holds s t rd ((s.bytesLE (s.readX rs1) 4).bmod (2 ^ 32)) ∧
      t.res = some ⟨s.readX rs1, .word⟩ ∧ Advances s t ∧ Frame s t [rd] [] [] ∧ t.fcsr = s.fcsr ∧ t.draws = s.draws) ∧
  Only64 s (encAmo 0b00010 aq rl 0 rs1 0b011 rd) (.lrD rd rs1 aq rl)
    (Accesses s (encAmo 0b00010 aq rl 0 rs1 0b011 rd) (.lrD rd rs1 aq rl) .load (s.readX rs1) 8
    (∃ t, exec (.lrD rd rs1 aq rl) s = .next t ∧ Holds s t rd ((s.bytesLE (s.readX rs1) 8).bmod (2 ^ 64)) ∧
      t.res = some ⟨s.readX rs1, .double⟩ ∧ Advances s t ∧ Frame s t [rd] [] [] ∧ t.fcsr = s.fcsr ∧ t.draws = s.draws))

/-- sc.w and sc.d without a covering reservation fail; with one they store and write 0, or fail and write 1. Cites R373, R374. -/
def Obligations.StoreConditionalSucceedsOnlyIfEligible : Prop :=
  ∀ (s : State) (rd rs1 rs2 : XReg) (aq rl : Bool),
  StoreConditional s (encAmo 0b00011 aq rl rs2 rs1 0b010 rd) (.scW rd rs1 rs2 aq rl) (s.readX rs1) 4 rd rs2 ∧
  Only64 s (encAmo 0b00011 aq rl rs2 rs1 0b011 rd) (.scD rd rs1 rs2 aq rl)
    (StoreConditional s (encAmo 0b00011 aq rl rs2 rs1 0b011 rd) (.scD rd rs1 rs2 aq rl) (s.readX rs1) 8 rd rs2)

/-- Each amo.w stores op(old word, low word of x[rs2]) at x[rs1] and writes the old word, sign-extended, to x[rd]. Cites R375,
R376, R378, R380, R382, R384, R386, R388, R390, R392. -/
def Obligations.WordAtomicsUpdateMemory : Prop :=
  ∀ (s : State) (rd rs1 rs2 : XReg) (aq rl : Bool),
  Amo s (encAmo 0b00001 aq rl rs2 rs1 0b010 rd) (.amoswapW rd rs1 rs2 aq rl) (s.readX rs1) 4 rd
    (s.lowReg rs2) ∧
  Amo s (encAmo 0b00000 aq rl rs2 rs1 0b010 rd) (.amoaddW rd rs1 rs2 aq rl) (s.readX rs1) 4 rd
    ((s.bytesLE (s.readX rs1) 4 + s.lowReg rs2) % 2 ^ 32) ∧
  Amo s (encAmo 0b01100 aq rl rs2 rs1 0b010 rd) (.amoandW rd rs1 rs2 aq rl) (s.readX rs1) 4 rd
    ((((s.bytesLE (s.readX rs1) 4).toNat &&& (s.lowReg rs2).toNat : Nat) : Int)) ∧
  Amo s (encAmo 0b01000 aq rl rs2 rs1 0b010 rd) (.amoorW rd rs1 rs2 aq rl) (s.readX rs1) 4 rd
    ((((s.bytesLE (s.readX rs1) 4).toNat ||| (s.lowReg rs2).toNat : Nat) : Int)) ∧
  Amo s (encAmo 0b00100 aq rl rs2 rs1 0b010 rd) (.amoxorW rd rs1 rs2 aq rl) (s.readX rs1) 4 rd
    ((((s.bytesLE (s.readX rs1) 4).toNat ^^^ (s.lowReg rs2).toNat : Nat) : Int)) ∧
  Amo s (encAmo 0b10000 aq rl rs2 rs1 0b010 rd) (.amominW rd rs1 rs2 aq rl) (s.readX rs1) 4 rd
    (if (s.bytesLE (s.readX rs1) 4).bmod (2 ^ 32) < (s.lowReg rs2).bmod (2 ^ 32) then s.bytesLE (s.readX rs1) 4 else s.lowReg rs2) ∧
  Amo s (encAmo 0b10100 aq rl rs2 rs1 0b010 rd) (.amomaxW rd rs1 rs2 aq rl) (s.readX rs1) 4 rd
    (if (s.lowReg rs2).bmod (2 ^ 32) < (s.bytesLE (s.readX rs1) 4).bmod (2 ^ 32) then s.bytesLE (s.readX rs1) 4 else s.lowReg rs2) ∧
  Amo s (encAmo 0b11000 aq rl rs2 rs1 0b010 rd) (.amominuW rd rs1 rs2 aq rl) (s.readX rs1) 4 rd
    (if s.bytesLE (s.readX rs1) 4 < s.lowReg rs2 then s.bytesLE (s.readX rs1) 4 else s.lowReg rs2) ∧
  Amo s (encAmo 0b11100 aq rl rs2 rs1 0b010 rd) (.amomaxuW rd rs1 rs2 aq rl) (s.readX rs1) 4 rd
    (if s.lowReg rs2 < s.bytesLE (s.readX rs1) 4 then s.bytesLE (s.readX rs1) 4 else s.lowReg rs2)

/-- Each amo.d stores op(old doubleword, x[rs2]) at x[rs1] and writes the old doubleword to x[rd], at XLEN = 64. Cites R377,
R379, R381, R383, R385, R387, R389, R391, R393. -/
def Obligations.DoubleAtomicsUpdateMemory : Prop :=
  ∀ (s : State) (rd rs1 rs2 : XReg) (aq rl : Bool),
  Only64 s (encAmo 0b00001 aq rl rs2 rs1 0b011 rd) (.amoswapD rd rs1 rs2 aq rl)
    (Amo s (encAmo 0b00001 aq rl rs2 rs1 0b011 rd) (.amoswapD rd rs1 rs2 aq rl) (s.readX rs1) 8 rd
    (s.uReg rs2)) ∧
  Only64 s (encAmo 0b00000 aq rl rs2 rs1 0b011 rd) (.amoaddD rd rs1 rs2 aq rl)
    (Amo s (encAmo 0b00000 aq rl rs2 rs1 0b011 rd) (.amoaddD rd rs1 rs2 aq rl) (s.readX rs1) 8 rd
    ((s.bytesLE (s.readX rs1) 8 + s.uReg rs2) % 2 ^ 64)) ∧
  Only64 s (encAmo 0b01100 aq rl rs2 rs1 0b011 rd) (.amoandD rd rs1 rs2 aq rl)
    (Amo s (encAmo 0b01100 aq rl rs2 rs1 0b011 rd) (.amoandD rd rs1 rs2 aq rl) (s.readX rs1) 8 rd
    ((((s.bytesLE (s.readX rs1) 8).toNat &&& (s.uReg rs2).toNat : Nat) : Int))) ∧
  Only64 s (encAmo 0b01000 aq rl rs2 rs1 0b011 rd) (.amoorD rd rs1 rs2 aq rl)
    (Amo s (encAmo 0b01000 aq rl rs2 rs1 0b011 rd) (.amoorD rd rs1 rs2 aq rl) (s.readX rs1) 8 rd
    ((((s.bytesLE (s.readX rs1) 8).toNat ||| (s.uReg rs2).toNat : Nat) : Int))) ∧
  Only64 s (encAmo 0b00100 aq rl rs2 rs1 0b011 rd) (.amoxorD rd rs1 rs2 aq rl)
    (Amo s (encAmo 0b00100 aq rl rs2 rs1 0b011 rd) (.amoxorD rd rs1 rs2 aq rl) (s.readX rs1) 8 rd
    ((((s.bytesLE (s.readX rs1) 8).toNat ^^^ (s.uReg rs2).toNat : Nat) : Int))) ∧
  Only64 s (encAmo 0b10000 aq rl rs2 rs1 0b011 rd) (.amominD rd rs1 rs2 aq rl)
    (Amo s (encAmo 0b10000 aq rl rs2 rs1 0b011 rd) (.amominD rd rs1 rs2 aq rl) (s.readX rs1) 8 rd
    (if (s.bytesLE (s.readX rs1) 8).bmod (2 ^ 64) < (s.uReg rs2).bmod (2 ^ 64) then s.bytesLE (s.readX rs1) 8 else s.uReg rs2)) ∧
  Only64 s (encAmo 0b10100 aq rl rs2 rs1 0b011 rd) (.amomaxD rd rs1 rs2 aq rl)
    (Amo s (encAmo 0b10100 aq rl rs2 rs1 0b011 rd) (.amomaxD rd rs1 rs2 aq rl) (s.readX rs1) 8 rd
    (if (s.uReg rs2).bmod (2 ^ 64) < (s.bytesLE (s.readX rs1) 8).bmod (2 ^ 64) then s.bytesLE (s.readX rs1) 8 else s.uReg rs2)) ∧
  Only64 s (encAmo 0b11000 aq rl rs2 rs1 0b011 rd) (.amominuD rd rs1 rs2 aq rl)
    (Amo s (encAmo 0b11000 aq rl rs2 rs1 0b011 rd) (.amominuD rd rs1 rs2 aq rl) (s.readX rs1) 8 rd
    (if s.bytesLE (s.readX rs1) 8 < s.uReg rs2 then s.bytesLE (s.readX rs1) 8 else s.uReg rs2)) ∧
  Only64 s (encAmo 0b11100 aq rl rs2 rs1 0b011 rd) (.amomaxuD rd rs1 rs2 aq rl)
    (Amo s (encAmo 0b11100 aq rl rs2 rs1 0b011 rd) (.amomaxuD rd rs1 rs2 aq rl) (s.readX rs1) 8 rd
    (if s.uReg rs2 < s.bytesLE (s.readX rs1) 8 then s.bytesLE (s.readX rs1) 8 else s.uReg rs2))

/-- flw boxes a word into f[rd], fld takes a doubleword; fsw, fsd write the low 4 or all 8 bytes of f[rs2]. Cites R420, R421,
R460, R461. -/
def Obligations.FloatLoadsAndStoresMoveBits : Prop :=
  ∀ (s : State) (rd rs2 : FReg) (rs1 : XReg) (imm : Imm12),
  EffectiveAddress s rs1 imm ∧
  Accesses s (encI imm rs1 0b010 rd 0b0000111) (.flw rd rs1 imm) .load (s.effectiveAddr rs1 imm) 4
    (∃ t, exec (.flw rd rs1 imm) s = .next t ∧ t.readF rd = 0xffffffff#32 ++ BitVec.ofInt 32 (s.bytesLE (s.effectiveAddr rs1 imm) 4) ∧ Advances s t ∧
      Frame s t [] [rd] [] ∧ SameSpecials s t) ∧
  Accesses s (encI imm rs1 0b011 rd 0b0000111) (.fld rd rs1 imm) .load (s.effectiveAddr rs1 imm) 8
    (∃ t, exec (.fld rd rs1 imm) s = .next t ∧ t.readF rd = BitVec.ofInt 64 (s.bytesLE (s.effectiveAddr rs1 imm) 8) ∧ Advances s t ∧
      Frame s t [] [rd] [] ∧ SameSpecials s t) ∧
  Stores s (encS imm rs2 rs1 0b010 0b0100111) (.fsw rs1 rs2 imm) (s.effectiveAddr rs1 imm) 4 (((s.readF rs2).toNat : Int)) ∧
  Stores s (encS imm rs2 rs1 0b011 0b0100111) (.fsd rs1 rs2 imm) (s.effectiveAddr rs1 imm) 8 (((s.readF rs2).toNat : Int))

/-- box puts 32 ones above a single, unbox reads a valid box back, else the canonical NaN; a double is the register. Cites
47_fp_single.md R401, 47_fp_single.md R402. -/
def Obligations.SinglesAreBoxed : Prop :=
  (∀ v : BitVec 32, box v = 0xffffffff#32 ++ v ∧ unbox (box v) = v) ∧
  (∀ r : BitVec 64, (r.toNat / 2 ^ 32 = 0xffffffff → (unbox r).toNat = r.toNat % 2 ^ 32) ∧
    (r.toNat / 2 ^ 32 ≠ 0xffffffff → unbox r = 0x7fc00000)) ∧
  (∀ (s : State) (r : FReg) (v : BitVec 32), s.readFmt .single r = unbox (s.readF r) ∧
    (s.writeFmt .single r v).readF r = box v) ∧
  (∀ (s : State) (r : FReg) (v : BitVec 64), s.readFmt .double r = s.readF r ∧ (s.writeFmt .double r v).readF r = v)

/-- fadd, fsub, fmul, fdiv (.s and .d) write fp_add ... fp_div in the selected mode and OR the flags, or are illegal. Cites
47_fp_single.md R405, 47_fp_single.md R418, 47_fp_single.md R422, 47_fp_single.md R423, 47_fp_single.md R424,
47_fp_single.md R425, 48_fp_double.md R462, 48_fp_double.md R463, 48_fp_double.md R464, 48_fp_double.md R465. -/
def Obligations.RoundingArithmeticWritesResultAndFlags : Prop :=
  ∀ (s : State) (rd rs1 rs2 : FReg) (rm : RmField),
  InMode s (encR 0b0000000 rs2 rs1 rm rd 0b1010011) (.faddS rd rs1 rs2 rm) rm (fun m =>
    GivesF s (encR 0b0000000 rs2 rs1 rm rd 0b1010011) (.faddS rd rs1 rs2 rm) .single rd (fpAdd .single m (s.readFmt .single rs1) (s.readFmt .single rs2))) ∧
  InMode s (encR 0b0000100 rs2 rs1 rm rd 0b1010011) (.fsubS rd rs1 rs2 rm) rm (fun m =>
    GivesF s (encR 0b0000100 rs2 rs1 rm rd 0b1010011) (.fsubS rd rs1 rs2 rm) .single rd (fpSub .single m (s.readFmt .single rs1) (s.readFmt .single rs2))) ∧
  InMode s (encR 0b0001000 rs2 rs1 rm rd 0b1010011) (.fmulS rd rs1 rs2 rm) rm (fun m =>
    GivesF s (encR 0b0001000 rs2 rs1 rm rd 0b1010011) (.fmulS rd rs1 rs2 rm) .single rd (fpMul .single m (s.readFmt .single rs1) (s.readFmt .single rs2))) ∧
  InMode s (encR 0b0001100 rs2 rs1 rm rd 0b1010011) (.fdivS rd rs1 rs2 rm) rm (fun m =>
    GivesF s (encR 0b0001100 rs2 rs1 rm rd 0b1010011) (.fdivS rd rs1 rs2 rm) .single rd (fpDiv .single m (s.readFmt .single rs1) (s.readFmt .single rs2))) ∧
  InMode s (encR 0b0000001 rs2 rs1 rm rd 0b1010011) (.faddD rd rs1 rs2 rm) rm (fun m =>
    GivesF s (encR 0b0000001 rs2 rs1 rm rd 0b1010011) (.faddD rd rs1 rs2 rm) .double rd (fpAdd .double m (s.readFmt .double rs1) (s.readFmt .double rs2))) ∧
  InMode s (encR 0b0000101 rs2 rs1 rm rd 0b1010011) (.fsubD rd rs1 rs2 rm) rm (fun m =>
    GivesF s (encR 0b0000101 rs2 rs1 rm rd 0b1010011) (.fsubD rd rs1 rs2 rm) .double rd (fpSub .double m (s.readFmt .double rs1) (s.readFmt .double rs2))) ∧
  InMode s (encR 0b0001001 rs2 rs1 rm rd 0b1010011) (.fmulD rd rs1 rs2 rm) rm (fun m =>
    GivesF s (encR 0b0001001 rs2 rs1 rm rd 0b1010011) (.fmulD rd rs1 rs2 rm) .double rd (fpMul .double m (s.readFmt .double rs1) (s.readFmt .double rs2))) ∧
  InMode s (encR 0b0001101 rs2 rs1 rm rd 0b1010011) (.fdivD rd rs1 rs2 rm) rm (fun m =>
    GivesF s (encR 0b0001101 rs2 rs1 rm rd 0b1010011) (.fdivD rd rs1 rs2 rm) .double rd (fpDiv .double m (s.readFmt .double rs1) (s.readFmt .double rs2)))

/-- fsqrt.s, fsqrt.d, fcvt.s.d, fcvt.d.s write their result in the selected mode and OR the flags, or are illegal. Cites
47_fp_single.md R405, 47_fp_single.md R418, 47_fp_single.md R426, 48_fp_double.md R466, 48_fp_double.md R488,
48_fp_double.md R489. -/
def Obligations.SquareRootAndFormatConversionWriteResultAndFlags : Prop :=
  ∀ (s : State) (rd rs1 : FReg) (rm : RmField),
  InMode s (encR 0b0101100 0b00000 rs1 rm rd 0b1010011) (.fsqrtS rd rs1 rm) rm (fun m =>
    GivesF s (encR 0b0101100 0b00000 rs1 rm rd 0b1010011) (.fsqrtS rd rs1 rm) .single rd (fpSqrt .single m (s.readFmt .single rs1))) ∧
  InMode s (encR 0b0101101 0b00000 rs1 rm rd 0b1010011) (.fsqrtD rd rs1 rm) rm (fun m =>
    GivesF s (encR 0b0101101 0b00000 rs1 rm rd 0b1010011) (.fsqrtD rd rs1 rm) .double rd (fpSqrt .double m (s.readFmt .double rs1))) ∧
  InMode s (encR 0b0100000 0b00001 rs1 rm rd 0b1010011) (.fcvtSD rd rs1 rm) rm (fun m =>
    GivesF s (encR 0b0100000 0b00001 rs1 rm rd 0b1010011) (.fcvtSD rd rs1 rm) .single rd (fpConvert .double .single m (s.readFmt .double rs1))) ∧
  InMode s (encR 0b0100001 0b00000 rs1 rm rd 0b1010011) (.fcvtDS rd rs1 rm) rm (fun m =>
    GivesF s (encR 0b0100001 0b00000 rs1 rm rd 0b1010011) (.fcvtDS rd rs1 rm) .double rd (fpConvert .single .double m (s.readFmt .single rs1)))

/-- fmadd, fmsub, fnmsub, fnmadd (.s and .d) write fp_fma with the signs of rs1 and rs3 flipped as the rules say. Cites
47_fp_single.md R405, 47_fp_single.md R412, 47_fp_single.md R427, 47_fp_single.md R428, 47_fp_single.md R429,
47_fp_single.md R430, 48_fp_double.md R467, 48_fp_double.md R468, 48_fp_double.md R469, 48_fp_double.md R470. -/
def Obligations.FusedMultiplyAddWritesResultAndFlags : Prop :=
  ∀ (s : State) (rd rs1 rs2 rs3 : FReg) (rm : RmField),
  InMode s (encR4 rs3 0b00 rs2 rs1 rm rd 0b1000011) (.fmaddS rd rs1 rs2 rs3 rm) rm (fun m =>
    GivesF s (encR4 rs3 0b00 rs2 rs1 rm rd 0b1000011) (.fmaddS rd rs1 rs2 rs3 rm) .single rd
      (fpFma .single m (s.readFmt .single rs1) (s.readFmt .single rs2) (s.readFmt .single rs3))) ∧
  InMode s (encR4 rs3 0b00 rs2 rs1 rm rd 0b1000111) (.fmsubS rd rs1 rs2 rs3 rm) rm (fun m =>
    GivesF s (encR4 rs3 0b00 rs2 rs1 rm rd 0b1000111) (.fmsubS rd rs1 rs2 rs3 rm) .single rd
      (fpFma .single m (s.readFmt .single rs1) (s.readFmt .single rs2) (flipSign .single (s.readFmt .single rs3)))) ∧
  InMode s (encR4 rs3 0b00 rs2 rs1 rm rd 0b1001011) (.fnmsubS rd rs1 rs2 rs3 rm) rm (fun m =>
    GivesF s (encR4 rs3 0b00 rs2 rs1 rm rd 0b1001011) (.fnmsubS rd rs1 rs2 rs3 rm) .single rd
      (fpFma .single m (flipSign .single (s.readFmt .single rs1)) (s.readFmt .single rs2) (s.readFmt .single rs3))) ∧
  InMode s (encR4 rs3 0b00 rs2 rs1 rm rd 0b1001111) (.fnmaddS rd rs1 rs2 rs3 rm) rm (fun m =>
    GivesF s (encR4 rs3 0b00 rs2 rs1 rm rd 0b1001111) (.fnmaddS rd rs1 rs2 rs3 rm) .single rd
      (fpFma .single m (flipSign .single (s.readFmt .single rs1)) (s.readFmt .single rs2) (flipSign .single (s.readFmt .single rs3)))) ∧
  InMode s (encR4 rs3 0b01 rs2 rs1 rm rd 0b1000011) (.fmaddD rd rs1 rs2 rs3 rm) rm (fun m =>
    GivesF s (encR4 rs3 0b01 rs2 rs1 rm rd 0b1000011) (.fmaddD rd rs1 rs2 rs3 rm) .double rd
      (fpFma .double m (s.readFmt .double rs1) (s.readFmt .double rs2) (s.readFmt .double rs3))) ∧
  InMode s (encR4 rs3 0b01 rs2 rs1 rm rd 0b1000111) (.fmsubD rd rs1 rs2 rs3 rm) rm (fun m =>
    GivesF s (encR4 rs3 0b01 rs2 rs1 rm rd 0b1000111) (.fmsubD rd rs1 rs2 rs3 rm) .double rd
      (fpFma .double m (s.readFmt .double rs1) (s.readFmt .double rs2) (flipSign .double (s.readFmt .double rs3)))) ∧
  InMode s (encR4 rs3 0b01 rs2 rs1 rm rd 0b1001011) (.fnmsubD rd rs1 rs2 rs3 rm) rm (fun m =>
    GivesF s (encR4 rs3 0b01 rs2 rs1 rm rd 0b1001011) (.fnmsubD rd rs1 rs2 rs3 rm) .double rd
      (fpFma .double m (flipSign .double (s.readFmt .double rs1)) (s.readFmt .double rs2) (s.readFmt .double rs3))) ∧
  InMode s (encR4 rs3 0b01 rs2 rs1 rm rd 0b1001111) (.fnmaddD rd rs1 rs2 rs3 rm) rm (fun m =>
    GivesF s (encR4 rs3 0b01 rs2 rs1 rm rd 0b1001111) (.fnmaddD rd rs1 rs2 rs3 rm) .double rd
      (fpFma .double m (flipSign .double (s.readFmt .double rs1)) (s.readFmt .double rs2) (flipSign .double (s.readFmt .double rs3))))

/-- fsgnj, fsgnjn, fsgnjx (.s and .d) take the magnitude of rs1 and the sign, the opposite, or the xor; no flag. Cites R431,
R432, R433, R471, R472, R473. -/
def Obligations.SignInjectionChangesTheSignOnly : Prop :=
  ∀ (s : State) (rd rs1 rs2 : FReg),
  GivesF s (encR 0b0010000 rs2 rs1 0b000 rd 0b1010011) (.fsgnjS rd rs1 rs2) .single rd
    (BitVec.ofBool ((s.readFmt .single rs2).msb) ++ (s.readFmt .single rs1).extractLsb' 0 31, 0) ∧
  GivesF s (encR 0b0010000 rs2 rs1 0b001 rd 0b1010011) (.fsgnjnS rd rs1 rs2) .single rd
    (BitVec.ofBool (!(s.readFmt .single rs2).msb) ++ (s.readFmt .single rs1).extractLsb' 0 31, 0) ∧
  GivesF s (encR 0b0010000 rs2 rs1 0b010 rd 0b1010011) (.fsgnjxS rd rs1 rs2) .single rd
    (BitVec.ofBool ((s.readFmt .single rs1).msb ^^ (s.readFmt .single rs2).msb) ++ (s.readFmt .single rs1).extractLsb' 0 31, 0) ∧
  GivesF s (encR 0b0010001 rs2 rs1 0b000 rd 0b1010011) (.fsgnjD rd rs1 rs2) .double rd
    (BitVec.ofBool ((s.readFmt .double rs2).msb) ++ (s.readFmt .double rs1).extractLsb' 0 63, 0) ∧
  GivesF s (encR 0b0010001 rs2 rs1 0b001 rd 0b1010011) (.fsgnjnD rd rs1 rs2) .double rd
    (BitVec.ofBool (!(s.readFmt .double rs2).msb) ++ (s.readFmt .double rs1).extractLsb' 0 63, 0) ∧
  GivesF s (encR 0b0010001 rs2 rs1 0b010 rd 0b1010011) (.fsgnjxD rd rs1 rs2) .double rd
    (BitVec.ofBool ((s.readFmt .double rs1).msb ^^ (s.readFmt .double rs2).msb) ++ (s.readFmt .double rs1).extractLsb' 0 63, 0)

/-- fmin, fmax (.s and .d) write fp_min, fp_max of the operands and raise at most NV, for a signaling NaN. Cites R434, R435,
R474, R475. -/
def Obligations.MinMaxWriteResultAndFlags : Prop :=
  ∀ (s : State) (rd rs1 rs2 : FReg),
  GivesF s (encR 0b0010100 rs2 rs1 0b000 rd 0b1010011) (.fminS rd rs1 rs2) .single rd
    (fpMin .single (s.readFmt .single rs1) (s.readFmt .single rs2)) ∧
  GivesF s (encR 0b0010100 rs2 rs1 0b001 rd 0b1010011) (.fmaxS rd rs1 rs2) .single rd
    (fpMax .single (s.readFmt .single rs1) (s.readFmt .single rs2)) ∧
  GivesF s (encR 0b0010101 rs2 rs1 0b000 rd 0b1010011) (.fminD rd rs1 rs2) .double rd
    (fpMin .double (s.readFmt .double rs1) (s.readFmt .double rs2)) ∧
  GivesF s (encR 0b0010101 rs2 rs1 0b001 rd 0b1010011) (.fmaxD rd rs1 rs2) .double rd
    (fpMax .double (s.readFmt .double rs1) (s.readFmt .double rs2)) ∧
  (∀ (F : Fmt) (a b : Pattern F), (fpMin F a b).2 = (if isSNaN F a ∨ isSNaN F b then flagNV else flagNone) ∧
    (fpMax F a b).2 = (if isSNaN F a ∨ isSNaN F b then flagNV else flagNone))

/-- feq, flt, fle (.s and .d) write 1 or 0 to x[rd] and raise at most NV, as fp_eq, fp_lt, fp_le say. Cites R436, R437, R438,
R476, R477, R478. -/
def Obligations.FloatComparisonsWriteOneOrZero : Prop :=
  ∀ (s : State) (rd : XReg) (rs1 rs2 : FReg),
  GivesXFlags s (encR 0b1010000 rs2 rs1 0b010 rd 0b1010011) (.feqS rd rs1 rs2) rd
    (if (fpEq .single (s.readFmt .single rs1) (s.readFmt .single rs2)).1 then 1 else 0) (fpEq .single (s.readFmt .single rs1) (s.readFmt .single rs2)).2 ∧
  GivesXFlags s (encR 0b1010000 rs2 rs1 0b001 rd 0b1010011) (.fltS rd rs1 rs2) rd
    (if (fpLt .single (s.readFmt .single rs1) (s.readFmt .single rs2)).1 then 1 else 0) (fpLt .single (s.readFmt .single rs1) (s.readFmt .single rs2)).2 ∧
  GivesXFlags s (encR 0b1010000 rs2 rs1 0b000 rd 0b1010011) (.fleS rd rs1 rs2) rd
    (if (fpLe .single (s.readFmt .single rs1) (s.readFmt .single rs2)).1 then 1 else 0) (fpLe .single (s.readFmt .single rs1) (s.readFmt .single rs2)).2 ∧
  GivesXFlags s (encR 0b1010001 rs2 rs1 0b010 rd 0b1010011) (.feqD rd rs1 rs2) rd
    (if (fpEq .double (s.readFmt .double rs1) (s.readFmt .double rs2)).1 then 1 else 0) (fpEq .double (s.readFmt .double rs1) (s.readFmt .double rs2)).2 ∧
  GivesXFlags s (encR 0b1010001 rs2 rs1 0b001 rd 0b1010011) (.fltD rd rs1 rs2) rd
    (if (fpLt .double (s.readFmt .double rs1) (s.readFmt .double rs2)).1 then 1 else 0) (fpLt .double (s.readFmt .double rs1) (s.readFmt .double rs2)).2 ∧
  GivesXFlags s (encR 0b1010001 rs2 rs1 0b000 rd 0b1010011) (.fleD rd rs1 rs2) rd
    (if (fpLe .double (s.readFmt .double rs1) (s.readFmt .double rs2)).1 then 1 else 0) (fpLe .double (s.readFmt .double rs1) (s.readFmt .double rs2)).2 ∧
  (∀ (F : Fmt) (a b : Pattern F), (fpEq F a b).2 = (if isSNaN F a ∨ isSNaN F b then flagNV else flagNone) ∧
    (fpLt F a b).2 = (if isNaN F a ∨ isNaN F b then flagNV else flagNone) ∧
    (fpLe F a b).2 = (if isNaN F a ∨ isNaN F b then flagNV else flagNone))

/-- fclass.s and fclass.d write the one-hot class mask of the operand and raise no flag. Cites R439, R479, R415. -/
def Obligations.ClassificationWritesItsMask : Prop :=
  (∀ (s : State) (rd : XReg) (rs1 : FReg),
  GivesX s (encR 0b1110000 0b00000 rs1 0b001 rd 0b1010011) (.fclassS rd rs1) rd (fpClass .single (s.readFmt .single rs1)).toNat ∧
  GivesX s (encR 0b1110001 0b00000 rs1 0b001 rd 0b1010011) (.fclassD rd rs1) rd (fpClass .double (s.readFmt .double rs1)).toNat) ∧
  (∀ (F : Fmt) (a : Pattern F), ∃ k : Nat, fpClass F a = BitVec.ofNat 10 (2 ^ k) ∧
    ((k = 0 ∧ expField F a = F.expOnes ∧ fracField F a = 0 ∧ signOf F a = true) ∨
     (k = 1 ∧ 0 < expField F a ∧ expField F a < F.expOnes ∧ signOf F a = true) ∨
     (k = 2 ∧ expField F a = 0 ∧ fracField F a ≠ 0 ∧ signOf F a = true) ∨
     (k = 3 ∧ expField F a = 0 ∧ fracField F a = 0 ∧ signOf F a = true) ∨
     (k = 4 ∧ expField F a = 0 ∧ fracField F a = 0 ∧ signOf F a = false) ∨
     (k = 5 ∧ expField F a = 0 ∧ fracField F a ≠ 0 ∧ signOf F a = false) ∨
     (k = 6 ∧ 0 < expField F a ∧ expField F a < F.expOnes ∧ signOf F a = false) ∨
     (k = 7 ∧ expField F a = F.expOnes ∧ fracField F a = 0 ∧ signOf F a = false) ∨
     (k = 8 ∧ expField F a = F.expOnes ∧ fracField F a ≠ 0 ∧ a.getLsbD (F.prec - 2) = false) ∨
     (k = 9 ∧ expField F a = F.expOnes ∧ a.getLsbD (F.prec - 2) = true)))

/-- fcvt.w, .wu, .l, .lu from S and D write fp_to_int in the selected mode, 32-bit results sign-extended. Cites R440, R441,
R442, R443, R480, R481, R482, R483. -/
def Obligations.FloatToIntegerWritesResultAndFlags : Prop :=
  ∀ (s : State) (rd : XReg) (rs1 : FReg) (rm : RmField),
  InMode s (encR 0b1100000 0b00000 rs1 rm rd 0b1010011) (.fcvtWS rd rs1 rm) rm (fun m =>
    GivesXFlags s (encR 0b1100000 0b00000 rs1 rm rd 0b1010011) (.fcvtWS rd rs1 rm) rd ((fpToInt .single m (s.readFmt .single rs1) 32 true).1.bmod (2 ^ 32)) (fpToInt .single m (s.readFmt .single rs1) 32 true).2) ∧
  InMode s (encR 0b1100000 0b00001 rs1 rm rd 0b1010011) (.fcvtWuS rd rs1 rm) rm (fun m =>
    GivesXFlags s (encR 0b1100000 0b00001 rs1 rm rd 0b1010011) (.fcvtWuS rd rs1 rm) rd ((fpToInt .single m (s.readFmt .single rs1) 32 false).1.bmod (2 ^ 32)) (fpToInt .single m (s.readFmt .single rs1) 32 false).2) ∧
  Only64 s (encR 0b1100000 0b00010 rs1 rm rd 0b1010011) (.fcvtLS rd rs1 rm)
    (InMode s (encR 0b1100000 0b00010 rs1 rm rd 0b1010011) (.fcvtLS rd rs1 rm) rm (fun m =>
    GivesXFlags s (encR 0b1100000 0b00010 rs1 rm rd 0b1010011) (.fcvtLS rd rs1 rm) rd ((fpToInt .single m (s.readFmt .single rs1) 64 true).1) (fpToInt .single m (s.readFmt .single rs1) 64 true).2)) ∧
  Only64 s (encR 0b1100000 0b00011 rs1 rm rd 0b1010011) (.fcvtLuS rd rs1 rm)
    (InMode s (encR 0b1100000 0b00011 rs1 rm rd 0b1010011) (.fcvtLuS rd rs1 rm) rm (fun m =>
    GivesXFlags s (encR 0b1100000 0b00011 rs1 rm rd 0b1010011) (.fcvtLuS rd rs1 rm) rd ((fpToInt .single m (s.readFmt .single rs1) 64 false).1) (fpToInt .single m (s.readFmt .single rs1) 64 false).2)) ∧
  InMode s (encR 0b1100001 0b00000 rs1 rm rd 0b1010011) (.fcvtWD rd rs1 rm) rm (fun m =>
    GivesXFlags s (encR 0b1100001 0b00000 rs1 rm rd 0b1010011) (.fcvtWD rd rs1 rm) rd ((fpToInt .double m (s.readFmt .double rs1) 32 true).1.bmod (2 ^ 32)) (fpToInt .double m (s.readFmt .double rs1) 32 true).2) ∧
  InMode s (encR 0b1100001 0b00001 rs1 rm rd 0b1010011) (.fcvtWuD rd rs1 rm) rm (fun m =>
    GivesXFlags s (encR 0b1100001 0b00001 rs1 rm rd 0b1010011) (.fcvtWuD rd rs1 rm) rd ((fpToInt .double m (s.readFmt .double rs1) 32 false).1.bmod (2 ^ 32)) (fpToInt .double m (s.readFmt .double rs1) 32 false).2) ∧
  Only64 s (encR 0b1100001 0b00010 rs1 rm rd 0b1010011) (.fcvtLD rd rs1 rm)
    (InMode s (encR 0b1100001 0b00010 rs1 rm rd 0b1010011) (.fcvtLD rd rs1 rm) rm (fun m =>
    GivesXFlags s (encR 0b1100001 0b00010 rs1 rm rd 0b1010011) (.fcvtLD rd rs1 rm) rd ((fpToInt .double m (s.readFmt .double rs1) 64 true).1) (fpToInt .double m (s.readFmt .double rs1) 64 true).2)) ∧
  Only64 s (encR 0b1100001 0b00011 rs1 rm rd 0b1010011) (.fcvtLuD rd rs1 rm)
    (InMode s (encR 0b1100001 0b00011 rs1 rm rd 0b1010011) (.fcvtLuD rd rs1 rm) rm (fun m =>
    GivesXFlags s (encR 0b1100001 0b00011 rs1 rm rd 0b1010011) (.fcvtLuD rd rs1 rm) rd ((fpToInt .double m (s.readFmt .double rs1) 64 false).1) (fpToInt .double m (s.readFmt .double rs1) 64 false).2))

/-- fcvt.s and fcvt.d from w, wu, l, lu write the integer in x[rs1] rounded in the selected mode. Cites R444, R445, R446,
R447, R484, R485, R486, R487. -/
def Obligations.IntegerToFloatRoundsTheInteger : Prop :=
  (∀ (s : State) (rd : FReg) (rs1 : XReg) (rm : RmField),
  InMode s (encR 0b1101000 0b00000 rs1 rm rd 0b1010011) (.fcvtSW rd rs1 rm) rm (fun m =>
    GivesF s (encR 0b1101000 0b00000 rs1 rm rd 0b1010011) (.fcvtSW rd rs1 rm) .single rd (round .single m (Frac.ofInt ((s.lowReg rs1).bmod (2 ^ 32))) false)) ∧
  InMode s (encR 0b1101000 0b00001 rs1 rm rd 0b1010011) (.fcvtSWu rd rs1 rm) rm (fun m =>
    GivesF s (encR 0b1101000 0b00001 rs1 rm rd 0b1010011) (.fcvtSWu rd rs1 rm) .single rd (round .single m (Frac.ofInt (s.lowReg rs1)) false)) ∧
  Only64 s (encR 0b1101000 0b00010 rs1 rm rd 0b1010011) (.fcvtSL rd rs1 rm)
    (InMode s (encR 0b1101000 0b00010 rs1 rm rd 0b1010011) (.fcvtSL rd rs1 rm) rm (fun m =>
    GivesF s (encR 0b1101000 0b00010 rs1 rm rd 0b1010011) (.fcvtSL rd rs1 rm) .single rd (round .single m (Frac.ofInt (s.sReg rs1)) false))) ∧
  Only64 s (encR 0b1101000 0b00011 rs1 rm rd 0b1010011) (.fcvtSLu rd rs1 rm)
    (InMode s (encR 0b1101000 0b00011 rs1 rm rd 0b1010011) (.fcvtSLu rd rs1 rm) rm (fun m =>
    GivesF s (encR 0b1101000 0b00011 rs1 rm rd 0b1010011) (.fcvtSLu rd rs1 rm) .single rd (round .single m (Frac.ofInt (s.uReg rs1)) false))) ∧
  InMode s (encR 0b1101001 0b00000 rs1 rm rd 0b1010011) (.fcvtDW rd rs1 rm) rm (fun m =>
    GivesF s (encR 0b1101001 0b00000 rs1 rm rd 0b1010011) (.fcvtDW rd rs1 rm) .double rd (round .double m (Frac.ofInt ((s.lowReg rs1).bmod (2 ^ 32))) false)) ∧
  InMode s (encR 0b1101001 0b00001 rs1 rm rd 0b1010011) (.fcvtDWu rd rs1 rm) rm (fun m =>
    GivesF s (encR 0b1101001 0b00001 rs1 rm rd 0b1010011) (.fcvtDWu rd rs1 rm) .double rd (round .double m (Frac.ofInt (s.lowReg rs1)) false)) ∧
  Only64 s (encR 0b1101001 0b00010 rs1 rm rd 0b1010011) (.fcvtDL rd rs1 rm)
    (InMode s (encR 0b1101001 0b00010 rs1 rm rd 0b1010011) (.fcvtDL rd rs1 rm) rm (fun m =>
    GivesF s (encR 0b1101001 0b00010 rs1 rm rd 0b1010011) (.fcvtDL rd rs1 rm) .double rd (round .double m (Frac.ofInt (s.sReg rs1)) false))) ∧
  Only64 s (encR 0b1101001 0b00011 rs1 rm rd 0b1010011) (.fcvtDLu rd rs1 rm)
    (InMode s (encR 0b1101001 0b00011 rs1 rm rd 0b1010011) (.fcvtDLu rd rs1 rm) rm (fun m =>
    GivesF s (encR 0b1101001 0b00011 rs1 rm rd 0b1010011) (.fcvtDLu rd rs1 rm) .double rd (round .double m (Frac.ofInt (s.uReg rs1)) false)))) ∧
  (∀ (m : RMode) (n : Int), -(2 : Int) ^ 31 ≤ n → n < 2 ^ 32 → (round .double m (Frac.ofInt n) false).2 = flagNone)

/-- fmv.x.w, fmv.w.x, fmv.x.d, fmv.d.x copy bits between the register files, without conversion or flag. Cites R448, R449,
R490, R491. -/
def Obligations.MovesCopyBits : Prop :=
  ∀ (s : State) (xd xs : XReg) (fd fs : FReg),
  GivesX s (encR 0b1110000 0b00000 fs 0b000 xd 0b1010011) (.fmvXW xd fs) xd (((s.readF fs).toNat : Int).bmod (2 ^ 32)) ∧
  GivesF s (encR 0b1111000 0b00000 xs 0b000 fd 0b1010011) (.fmvWX fd xs) .single fd (BitVec.ofInt 32 (s.uReg xs), 0) ∧
  Only64 s (encR 0b1110001 0b00000 fs 0b000 xd 0b1010011) (.fmvXD xd fs)
    (GivesX s (encR 0b1110001 0b00000 fs 0b000 xd 0b1010011) (.fmvXD xd fs) xd ((s.readF fs).toNat : Int)) ∧
  Only64 s (encR 0b1111001 0b00000 xs 0b000 fd 0b1010011) (.fmvDX fd xs)
    (GivesF s (encR 0b1111001 0b00000 xs 0b000 fd 0b1010011) (.fmvDX fd xs) .double fd (BitVec.ofInt 64 (s.uReg xs), 0))

/-- csrrw, csrrs, csrrc and the immediate forms write the new CSR value and give the old one, or are illegal. Cites R520,
R521, R522, R523, R524, R525, R526. -/
def Obligations.CsrInstructionsReadAndWrite : Prop :=
  ∀ (s : State) (rd rs1 : XReg) (uimm : Uimm5) (csr : CsrAddr),
  AccessesCsr s (encI csr rs1 0b001 rd 0b1110011) (.csrrw rd rs1 csr) csr rd
    (True) ((s.readX rs1).toNat) ∧
  AccessesCsr s (encI csr rs1 0b010 rd 0b1110011) (.csrrs rd rs1 csr) csr rd
    (rs1 ≠ 0) (csrView csr s.fcsr.toNat ||| (s.readX rs1).toNat) ∧
  AccessesCsr s (encI csr rs1 0b011 rd 0b1110011) (.csrrc rd rs1 csr) csr rd
    (rs1 ≠ 0) (csrView csr s.fcsr.toNat - (csrView csr s.fcsr.toNat &&& (s.readX rs1).toNat)) ∧
  AccessesCsr s (encI csr uimm 0b101 rd 0b1110011) (.csrrwi rd uimm csr) csr rd
    (True) (uimm.toNat) ∧
  AccessesCsr s (encI csr uimm 0b110 rd 0b1110011) (.csrrsi rd uimm csr) csr rd
    (uimm ≠ 0) (csrView csr s.fcsr.toNat ||| uimm.toNat) ∧
  AccessesCsr s (encI csr uimm 0b111 rd 0b1110011) (.csrrci rd uimm csr) csr rd
    (uimm ≠ 0) (csrView csr s.fcsr.toNat - (csrView csr s.fcsr.toNat &&& uimm.toNat))

/-- A pattern is its three fields, val is the number R400 gives it, and zeros, infinities and NaNs are as R400 says. Cites
47_fp_single.md R400, 47_fp_single.md R402. -/
def Obligations.PatternDenotesItsNumber : Prop :=
  (∀ (F : Fmt) (a : Pattern F), (val F a).toRat = ratOf F a ∧ 0 < (val F a).den ∧
    a.toNat = (if signOf F a then 2 ^ (F.width - 1) else 0) + expField F a * 2 ^ (F.prec - 1) + fracField F a ∧
    (isZero F a = true ↔ expField F a = 0 ∧ fracField F a = 0) ∧
    (isInf F a = true ↔ expField F a = 2 ^ (F.width - F.prec) - 1 ∧ fracField F a = 0) ∧
    (isNaN F a = true ↔ expField F a = 2 ^ (F.width - F.prec) - 1 ∧ fracField F a ≠ 0) ∧
    (isSNaN F a = true ↔ isNaN F a = true ∧ fracField F a < 2 ^ (F.prec - 2))) ∧
  ∀ (F : Fmt) (s : Bool),
    (signOf F (infOf F s) = s ∧ expField F (infOf F s) = 2 ^ (F.width - F.prec) - 1 ∧ fracField F (infOf F s) = 0) ∧
    (signOf F (zeroOf F s) = s ∧ expField F (zeroOf F s) = 0 ∧ fracField F (zeroOf F s) = 0)

/-- round gives the same pattern and flags for two fractions of the same number. Cites 47_fp_single.md R407. -/
def Obligations.RoundDependsOnTheValueOnly : Prop :=
  ∀ (F : Fmt) (m : RMode) (zs : Bool) (v w : Frac), 0 < v.den → 0 < w.den → v.toRat = w.toRat →
  round F m v zs = round F m w zs

/-- A finite non-zero pattern rounds to itself with no flag; an exact 0 to the zero of sign zs; others keep their sign. Cites
47_fp_single.md R407. -/
def Obligations.RepresentableValuesRoundToThemselves : Prop :=
  (∀ (F : Fmt) (m : RMode) (zs : Bool) (a : Pattern F), isFinite F a → isZero F a = false →
    round F m (val F a) zs = (a, flagNone)) ∧
  ∀ (F : Fmt) (m : RMode) (zs : Bool) (v : Frac), 0 < v.den →
    (v.toRat = 0 → round F m v zs = (zeroOf F zs, flagNone) ∧ isZero F (round F m v zs).1 = true ∧
      signOf F (round F m v zs).1 = zs) ∧
    (v.toRat ≠ 0 → signOf F (round F m v zs).1 = decide (v.toRat < 0))

/-- RDN, RUP, RTZ give the greatest representable number below, the least above, the greatest not larger in size. Cites
47_fp_single.md R404, 47_fp_single.md R407. -/
def Obligations.DirectedRoundingIsTightest : Prop :=
  ∀ (F : Fmt) (v : Frac) (zs : Bool), 0 < v.den → v.num ≠ 0 →
  ((isFinite F (round F .rdn v zs).1 ∧ ratOf F (round F .rdn v zs).1 ≤ v.toRat ∧
      ∀ q, isFinite F q → ratOf F q ≤ v.toRat → ratOf F q ≤ ratOf F (round F .rdn v zs).1) ∨
    ((round F .rdn v zs).1 = infOf F true ∧ ∀ q, isFinite F q → v.toRat < ratOf F q)) ∧
  ((isFinite F (round F .rup v zs).1 ∧ v.toRat ≤ ratOf F (round F .rup v zs).1 ∧
      ∀ q, isFinite F q → v.toRat ≤ ratOf F q → ratOf F (round F .rup v zs).1 ≤ ratOf F q) ∨
    ((round F .rup v zs).1 = infOf F false ∧ ∀ q, isFinite F q → ratOf F q < v.toRat)) ∧
  (isFinite F (round F .rtz v zs).1 ∧ signOf F (round F .rtz v zs).1 = decide (v.toRat < 0) ∧
    |ratOf F (round F .rtz v zs).1| ≤ |v.toRat| ∧
    ∀ q, isFinite F q → |ratOf F q| ≤ |v.toRat| → |ratOf F q| ≤ |ratOf F (round F .rtz v zs).1|) ∧
  signOf F (round F .rdn v zs).1 = decide (v.toRat < 0) ∧ signOf F (round F .rup v zs).1 = decide (v.toRat < 0)

/-- RNE and RMM give a nearest representable number, ties to even or away from zero, or infinity past the threshold. Cites
47_fp_single.md R404, 47_fp_single.md R407. -/
def Obligations.NearestRoundingIsNearest : Prop :=
  ∀ (F : Fmt) (v : Frac) (zs : Bool), 0 < v.den → v.num ≠ 0 →
  (|v.toRat| < (2 - (2 : ℚ) ^ (-(F.prec : Int))) * (2 : ℚ) ^ F.emax →
    (isFinite F (round F .rne v zs).1 ∧ ∀ q, isFinite F q →
      |ratOf F (round F .rne v zs).1 - v.toRat| ≤ |ratOf F q - v.toRat| ∧
      (|ratOf F (round F .rne v zs).1 - v.toRat| = |ratOf F q - v.toRat| → ratOf F q ≠ ratOf F (round F .rne v zs).1 →
        fracField F (round F .rne v zs).1 % 2 = 0)) ∧
    (isFinite F (round F .rmm v zs).1 ∧ ∀ q, isFinite F q →
      |ratOf F (round F .rmm v zs).1 - v.toRat| ≤ |ratOf F q - v.toRat| ∧
      (|ratOf F (round F .rmm v zs).1 - v.toRat| = |ratOf F q - v.toRat| → ratOf F q ≠ ratOf F (round F .rmm v zs).1 →
        |ratOf F q| < |ratOf F (round F .rmm v zs).1|))) ∧
  ((2 - (2 : ℚ) ^ (-(F.prec : Int))) * (2 : ℚ) ^ F.emax ≤ |v.toRat| →
    (round F .rne v zs).1 = infOf F (decide (v.toRat < 0)) ∧ (round F .rmm v zs).1 = infOf F (decide (v.toRat < 0))) ∧
  signOf F (round F .rne v zs).1 = decide (v.toRat < 0) ∧ signOf F (round F .rmm v zs).1 = decide (v.toRat < 0)

/-- round raises NX exactly if inexact, OF exactly on overflow, UF exactly if inexact and tiny after rounding. Cites
47_fp_single.md R406, 47_fp_single.md R407. -/
def Obligations.InexactFlagTellsTheTruth : Prop :=
  ∀ (F : Fmt) (m : RMode) (v : Frac) (zs : Bool), 0 < v.den →
  ((round F m v zs).2 = flagNone ↔ isFinite F (round F m v zs).1 ∧ ratOf F (round F m v zs).1 = v.toRat) ∧
  ((round F m v zs).2 = flagNone ∨ (round F m v zs).2 = flagNX ∨ (round F m v zs).2 = flagUF ||| flagNX ∨
    (round F m v zs).2 = flagOF ||| flagNX) ∧
  (∀ e k : Int, (2 : ℚ) ^ e ≤ |v.toRat| → |v.toRat| < (2 : ℚ) ^ (e + 1) →
    RoundsToInt m (v.toRat / (2 : ℚ) ^ (e - F.prec + 1)) k →
    ((round F m v zs).2 = flagOF ||| flagNX ↔
      (2 - (2 : ℚ) ^ (1 - (F.prec : Int))) * (2 : ℚ) ^ F.emax < |(k : ℚ) * (2 : ℚ) ^ (e - F.prec + 1)|) ∧
    ((round F m v zs).2 = flagUF ||| flagNX ↔
      |(k : ℚ) * (2 : ℚ) ^ (e - F.prec + 1)| < (2 : ℚ) ^ F.emin ∧ ratOf F (round F m v zs).1 ≠ v.toRat))

/-- fp_add handles NaNs and infinities as R408 says and rounds the exact sum of finite operands; fp_sub negates b. Cites R408. -/
def Obligations.AdditionIsRoundedExactSum : Prop :=
  ∀ (F : Fmt) (m : RMode) (a b : Pattern F),
  (isSNaN F a ∨ isSNaN F b → fpAdd F m a b = (canonicalNaN F, flagNV)) ∧
  (¬ (isSNaN F a ∨ isSNaN F b) → isNaN F a ∨ isNaN F b → fpAdd F m a b = (canonicalNaN F, flagNone)) ∧
  (¬ (isNaN F a ∨ isNaN F b) →
    (isInf F a → isInf F b → signOf F a = signOf F b → fpAdd F m a b = (a, flagNone)) ∧
    (isInf F a → isInf F b → signOf F a ≠ signOf F b → fpAdd F m a b = (canonicalNaN F, flagNV)) ∧
    (isInf F a → isFinite F b → fpAdd F m a b = (a, flagNone)) ∧
    (isFinite F a → isInf F b → fpAdd F m a b = (b, flagNone)) ∧
    (isFinite F a → isFinite F b → ∀ v : Frac, 0 < v.den → v.toRat = ratOf F a + ratOf F b →
      fpAdd F m a b = round F m v
        (if isZero F a ∧ isZero F b ∧ signOf F a = signOf F b then signOf F a else decide (m = .rdn)))) ∧
  (fpSub F m a b = fpAdd F m a (flipSign F b)) ∧ signOf F (flipSign F b) = !signOf F b ∧
  expField F (flipSign F b) = expField F b ∧ fracField F (flipSign F b) = fracField F b

/-- fp_mul handles NaNs and infinities as R409 says and rounds the exact product of finite operands. Cites R409. -/
def Obligations.MultiplicationIsRoundedExactProduct : Prop :=
  ∀ (F : Fmt) (m : RMode) (a b : Pattern F),
  (isSNaN F a ∨ isSNaN F b → fpMul F m a b = (canonicalNaN F, flagNV)) ∧
  (¬ (isSNaN F a ∨ isSNaN F b) → isNaN F a ∨ isNaN F b → fpMul F m a b = (canonicalNaN F, flagNone)) ∧
  (¬ (isNaN F a ∨ isNaN F b) →
    ((isInf F a ∧ isZero F b) ∨ (isZero F a ∧ isInf F b) → fpMul F m a b = (canonicalNaN F, flagNV)) ∧
    (isInf F a ∧ ¬ isZero F b ∨ isInf F b ∧ ¬ isZero F a → fpMul F m a b = (infOf F (signOf F a ^^ signOf F b), flagNone)) ∧
    (isFinite F a → isFinite F b → ∀ v : Frac, 0 < v.den → v.toRat = ratOf F a * ratOf F b →
      fpMul F m a b = round F m v (signOf F a ^^ signOf F b)))

/-- fp_div handles NaNs, infinities and zeros as R410 says and rounds the exact quotient of finite operands. Cites R410. -/
def Obligations.DivisionIsRoundedExactQuotient : Prop :=
  ∀ (F : Fmt) (m : RMode) (a b : Pattern F),
  (isSNaN F a ∨ isSNaN F b → fpDiv F m a b = (canonicalNaN F, flagNV)) ∧
  (¬ (isSNaN F a ∨ isSNaN F b) → isNaN F a ∨ isNaN F b → fpDiv F m a b = (canonicalNaN F, flagNone)) ∧
  (¬ (isNaN F a ∨ isNaN F b) →
    (isInf F a ∧ isInf F b ∨ isZero F a ∧ isZero F b → fpDiv F m a b = (canonicalNaN F, flagNV)) ∧
    (isInf F a → isFinite F b → fpDiv F m a b = (infOf F (signOf F a ^^ signOf F b), flagNone)) ∧
    (isFinite F a → isInf F b → fpDiv F m a b = (zeroOf F (signOf F a ^^ signOf F b), flagNone)) ∧
    (isFinite F a → ¬ isZero F a → isZero F b → fpDiv F m a b = (infOf F (signOf F a ^^ signOf F b), flagDZ)) ∧
    (isFinite F a → isFinite F b → ¬ isZero F b → ∀ v : Frac, 0 < v.den → v.toRat = ratOf F a / ratOf F b →
      fpDiv F m a b = round F m v (signOf F a ^^ signOf F b)))

/-- fp_fma handles NaNs and infinities in the order of R412 and rounds the exact a * b + c once. Cites R412. -/
def Obligations.FusedMultiplyAddRoundsOnce : Prop :=
  ∀ (F : Fmt) (m : RMode) (a b c : Pattern F),
  ((isInf F a ∧ isZero F b) ∨ (isZero F a ∧ isInf F b) → fpFma F m a b c = (canonicalNaN F, flagNV)) ∧
  (¬ ((isInf F a ∧ isZero F b) ∨ (isZero F a ∧ isInf F b)) →
    (isSNaN F a ∨ isSNaN F b ∨ isSNaN F c → fpFma F m a b c = (canonicalNaN F, flagNV)) ∧
    (¬ (isSNaN F a ∨ isSNaN F b ∨ isSNaN F c) → isNaN F a ∨ isNaN F b ∨ isNaN F c →
      fpFma F m a b c = (canonicalNaN F, flagNone)) ∧
    (¬ (isNaN F a ∨ isNaN F b ∨ isNaN F c) →
      (isInf F a ∨ isInf F b → isInf F c → signOf F c ≠ (signOf F a ^^ signOf F b) → fpFma F m a b c = (canonicalNaN F, flagNV)) ∧
      (isInf F a ∨ isInf F b → ¬ (isInf F c ∧ signOf F c ≠ (signOf F a ^^ signOf F b)) → fpFma F m a b c = (infOf F (signOf F a ^^ signOf F b), flagNone)) ∧
      (isFinite F a → isFinite F b → isInf F c → fpFma F m a b c = (c, flagNone)) ∧
      (isFinite F a → isFinite F b → isFinite F c →
        ∀ v : Frac, 0 < v.den → v.toRat = ratOf F a * ratOf F b + ratOf F c →
          fpFma F m a b c = round F m v
            (if (isZero F a ∨ isZero F b) ∧ isZero F c ∧ (signOf F a ^^ signOf F b) = signOf F c then (signOf F a ^^ signOf F b) else decide (m = .rdn)))))

/-- fp_sqrt of a positive number is the correctly rounded real root in each mode; specials as R411 says. Cites R411. -/
def Obligations.SquareRootIsCorrectlyRounded : Prop :=
  ∀ (F : Fmt) (m : RMode) (a : Pattern F),
  (isSNaN F a → fpSqrt F m a = (canonicalNaN F, flagNV)) ∧
  (isNaN F a → ¬ isSNaN F a → fpSqrt F m a = (canonicalNaN F, flagNone)) ∧
  (isZero F a → fpSqrt F m a = (a, flagNone)) ∧
  (¬ isNaN F a → ¬ isZero F a → signOf F a = true → fpSqrt F m a = (canonicalNaN F, flagNV)) ∧
  (isInf F a → signOf F a = false → fpSqrt F m a = (a, flagNone)) ∧
  (isFinite F a → ¬ isZero F a → signOf F a = false →
    isFinite F (fpSqrt F m a).1 ∧ 0 ≤ ratOf F (fpSqrt F m a).1 ∧
    (fpSqrt F m a).2 = (if ratOf F (fpSqrt F m a).1 * ratOf F (fpSqrt F m a).1 = ratOf F a then flagNone else flagNX) ∧
    ∀ q, isFinite F q → 0 ≤ ratOf F q →
      (m = .rdn ∨ m = .rtz → ratOf F (fpSqrt F m a).1 ^ 2 ≤ ratOf F a ∧
        (ratOf F q ^ 2 ≤ ratOf F a → ratOf F q ≤ ratOf F (fpSqrt F m a).1)) ∧
      (m = .rup → ratOf F a ≤ ratOf F (fpSqrt F m a).1 ^ 2 ∧
        (ratOf F a ≤ ratOf F q ^ 2 → ratOf F (fpSqrt F m a).1 ≤ ratOf F q)) ∧
      (m = .rne ∨ m = .rmm →
        (ratOf F (fpSqrt F m a).1 < ratOf F q → ratOf F a ≤ ((ratOf F (fpSqrt F m a).1 + ratOf F q) / 2) ^ 2) ∧
        (ratOf F q < ratOf F (fpSqrt F m a).1 → ((ratOf F (fpSqrt F m a).1 + ratOf F q) / 2) ^ 2 ≤ ratOf F a)))

/-- fp_eq, fp_lt, fp_le compare the extended reals; a NaN gives 0, with NV for lt and le or if signaling. Cites R414. -/
def Obligations.ComparisonsFollowTheExtendedReals : Prop :=
  ∀ (F : Fmt) (a b : Pattern F),
  (¬ (isNaN F a ∨ isNaN F b) →
    ((fpEq F a b).1 = true ↔ extRat F a = extRat F b) ∧ ((fpLt F a b).1 = true ↔ extRat F a < extRat F b) ∧
    ((fpLe F a b).1 = true ↔ extRat F a ≤ extRat F b) ∧
    (fpEq F a b).2 = flagNone ∧ (fpLt F a b).2 = flagNone ∧ (fpLe F a b).2 = flagNone) ∧
  (isNaN F a ∨ isNaN F b →
    fpEq F a b = (false, if isSNaN F a ∨ isSNaN F b then flagNV else flagNone) ∧
    fpLt F a b = (false, flagNV) ∧ fpLe F a b = (false, flagNV))

/-- fp_min and fp_max give the smaller or larger operand, -0 below +0, the number if one is a NaN. Cites R413. -/
def Obligations.MinAndMaxPickByOrder : Prop :=
  ∀ (F : Fmt) (a b : Pattern F),
  (isNaN F a → isNaN F b → (fpMin F a b).1 = canonicalNaN F ∧ (fpMax F a b).1 = canonicalNaN F) ∧
  (isNaN F a → ¬ isNaN F b → (fpMin F a b).1 = b ∧ (fpMax F a b).1 = b) ∧
  (¬ isNaN F a → isNaN F b → (fpMin F a b).1 = a ∧ (fpMax F a b).1 = a) ∧
  (isZero F a → isZero F b →
    (fpMin F a b).1 = zeroOf F (signOf F a || signOf F b) ∧ (fpMax F a b).1 = zeroOf F (signOf F a && signOf F b)) ∧
  (¬ isNaN F a → ¬ isNaN F b → ¬ (isZero F a ∧ isZero F b) →
    (extRat F a < extRat F b → (fpMin F a b).1 = a) ∧ (¬ extRat F a < extRat F b → (fpMin F a b).1 = b) ∧
    (extRat F b < extRat F a → (fpMax F a b).1 = a) ∧ (¬ extRat F b < extRat F a → (fpMax F a b).1 = b)) ∧
  (fpMin F a b).2 = (if isSNaN F a ∨ isSNaN F b then flagNV else flagNone) ∧
  (fpMax F a b).2 = (if isSNaN F a ∨ isSNaN F b then flagNV else flagNone)

/-- fp_to_int rounds to an integer in the mode, then saturates with NV, or raises NX if it is not exact. Cites 47_fp_single.md
R416. -/
def Obligations.FloatToIntegerRoundsAndSaturates : Prop :=
  ∀ (F : Fmt) (m : RMode) (a : Pattern F) (W : Nat) (sgn : Bool),
  (isNaN F a → fpToInt F m a W sgn = (intHigh W sgn, flagNV)) ∧
  (isInf F a → fpToInt F m a W sgn = (if signOf F a then intLow W sgn else intHigh W sgn, flagNV)) ∧
  (isFinite F a → 1 ≤ W → ∃ n : Int, RoundsToInt m (ratOf F a) n ∧
    (n < intLow W sgn → fpToInt F m a W sgn = (intLow W sgn, flagNV)) ∧
    (intHigh W sgn < n → fpToInt F m a W sgn = (intHigh W sgn, flagNV)) ∧
    (intLow W sgn ≤ n → n ≤ intHigh W sgn →
      fpToInt F m a W sgn = (n, if (n : ℚ) = ratOf F a then flagNone else flagNX)))

/-- The conversion from S to D keeps sign and value exactly, infinities too; a NaN gives the canonical NaN. Cites
48_fp_double.md R489. -/
def Obligations.WideningToDoubleIsExact : Prop :=
  ∀ (m : RMode) (a : Pattern .single),
  (isSNaN .single a → fpConvert .single .double m a = (canonicalNaN .double, flagNV)) ∧
  (isNaN .single a → ¬ isSNaN .single a → fpConvert .single .double m a = (canonicalNaN .double, flagNone)) ∧
  (isInf .single a → fpConvert .single .double m a = (infOf .double (signOf .single a), flagNone)) ∧
  (isFinite .single a → (fpConvert .single .double m a).2 = flagNone ∧
    isFinite .double (fpConvert .single .double m a).1 ∧
    signOf .double (fpConvert .single .double m a).1 = signOf .single a ∧
    ratOf .double (fpConvert .single .double m a).1 = ratOf .single a)

/-- Every NaN that an arithmetic operation gives is the canonical NaN, 0x7fc00000 or 0x7ff8000000000000. Cites 47_fp_single.md
R403. -/
def Obligations.NaNsAreCanonical : Prop :=
  (canonicalNaN .single = 0x7fc00000#32 ∧ canonicalNaN .double = 0x7ff8000000000000#64) ∧
  ∀ (F G : Fmt) (m : RMode) (a b c : Pattern F),
  (isNaN F (fpAdd F m a b).1 → (fpAdd F m a b).1 = canonicalNaN F) ∧
  (isNaN F (fpSub F m a b).1 → (fpSub F m a b).1 = canonicalNaN F) ∧
  (isNaN F (fpMul F m a b).1 → (fpMul F m a b).1 = canonicalNaN F) ∧
  (isNaN F (fpDiv F m a b).1 → (fpDiv F m a b).1 = canonicalNaN F) ∧
  (isNaN F (fpSqrt F m a).1 → (fpSqrt F m a).1 = canonicalNaN F) ∧
  (isNaN F (fpFma F m a b c).1 → (fpFma F m a b c).1 = canonicalNaN F) ∧
  (isNaN F (fpMin F a b).1 → (fpMin F a b).1 = canonicalNaN F) ∧
  (isNaN F (fpMax F a b).1 → (fpMax F a b).1 = canonicalNaN F) ∧
  (isNaN G (fpConvert F G m a).1 → (fpConvert F G m a).1 = canonicalNaN G)

/-- NV and DZ come alone, OF and UF only with NX, from every floating-point operation. Cites 47_fp_single.md R406. -/
def Obligations.FlagsComeInLegalSets : Prop :=
  ∀ (F G : Fmt) (m : RMode) (a b c : Pattern F) (n : Int) (W : Nat) (sgn : Bool),
  LegalFlags (fpAdd F m a b).2 ∧
  LegalFlags (fpSub F m a b).2 ∧
  LegalFlags (fpMul F m a b).2 ∧
  LegalFlags (fpDiv F m a b).2 ∧
  LegalFlags (fpSqrt F m a).2 ∧
  LegalFlags (fpFma F m a b c).2 ∧
  LegalFlags (fpMin F a b).2 ∧
  LegalFlags (fpMax F a b).2 ∧
  LegalFlags (fpEq F a b).2 ∧
  LegalFlags (fpLt F a b).2 ∧
  LegalFlags (fpLe F a b).2 ∧
  LegalFlags (fpToInt F m a W sgn).2 ∧
  LegalFlags (intToFp F m n).2 ∧
  LegalFlags (fpConvert F G m a).2

/-- Only a CSR instruction clears a flag or changes frm; writing fflags keeps frm and takes the low five bits. Cites
10_state.md R38. -/
def Obligations.FlagsAreSticky : Prop :=
  (∀ (i : Instr) (s t : State), isCsrInstr i = false → exec i s = .next t → s.fflags &&& t.fflags = s.fflags ∧ t.frm = s.frm) ∧
  (∀ (s : State) (v : Word), (s.csrRead 0x001).toNat = s.fcsr.toNat % 32 ∧
    (s.csrWrite 0x001 v).fcsr.toNat = s.fcsr.toNat / 32 * 32 + v.toNat % 32)

/-- A step fetches four bytes at pc, each one that R101 admits, and runs the instruction they decode to, or traps. Cites
20_memory.md R78, 20_memory.md R101, 30_encoding.md R131, 30_encoding.md R132, 00_scope.md R9. -/
def Obligations.StepRunsTheDecodedInstruction : Prop :=
  ∀ s : State,
  (¬ s.Inside s.getPc 4 → step s = .fault (.trap .instructionAccessFault s.getPc)) ∧
  (s.Inside s.getPc 4 → ∀ r, decode s.xlen s.fetchWord = .error r →
    step s = .fault (.trap .illegalInstruction (s.fetchWord.setWidth 64))) ∧
  (s.Inside s.getPc 4 → ∀ i, decode s.xlen s.fetchWord = .ok i → step s = exec i s.afterFetch ∧
    s.afterFetch = { s with draws := s.afterFetch.draws }) ∧
  s.fetchWord = wordOfBytes (s.fetchByte (s.byteAddr s.getPc 0) 0) (s.fetchByte (s.byteAddr s.getPc 1) 1)
    (s.fetchByte (s.byteAddr s.getPc 2) 2) (s.fetchByte (s.byteAddr s.getPc 3) 3) ∧
  s.fetchWord.toNat = (s.fetchByte (s.byteAddr s.getPc 0) 0).toNat + (s.fetchByte (s.byteAddr s.getPc 1) 1).toNat * 256 +
    (s.fetchByte (s.byteAddr s.getPc 2) 2).toNat * 256 ^ 2 + (s.fetchByte (s.byteAddr s.getPc 3) 3).toNat * 256 ^ 3 ∧
  (∀ a k : Nat, (s.mem.read a :: s.olderValues a)[Config.fetchPick s.draws k % ((s.olderValues a).length + 1)]? =
    some (s.fetchByte a k)) ∧
  (∀ (a : Nat) (b : Byte), b ∈ s.olderValues a ↔ (a, b) ∈ s.stale) ∧
  ((∃ c ∈ s.stale, c.1 ∈ s.bytesAt s.getPc 4) → s.afterFetch.draws = s.draws + 1) ∧
  ((∀ c ∈ s.stale, c.1 ∉ s.bytesAt s.getPc 4) → s.afterFetch = s ∧ (s.fetchWord.toNat : Int) = s.bytesLE s.getPc 4)

/-- A fetched byte is the current one or one it replaced since fence.i; an unstored one is exact. Cites R101. -/
def Obligations.FetchReturnsAnAdmissibleByte : Prop :=
  ∀ (s : State) (a k : Nat),
  (s.fetchByte a k = s.mem.read a ∨ (a, s.fetchByte a k) ∈ s.stale) ∧
  ((∀ c ∈ s.stale, c.1 ≠ a) → s.fetchByte a k = s.mem.read a) ∧
  (∀ (b : Nat) (v : Byte) (c : Host.Cell), c ∈ (s.storeByte b v).stale ↔ c = (b, s.mem.read b) ∨ c ∈ s.stale) ∧
  s.syncFetch.stale = []

/-- An instruction with an encoding at this XLEN raises only the exceptions R582 lists; no step is refused. Cites
60_exceptions.md R582, 60_exceptions.md R560. -/
def Obligations.OnlyListedExceptions : Prop :=
  (∀ (i : Instr) (s : State), i.wf s.xlen = true → ∀ e info, exec i s = .fault (.trap e info) → e ∈ exceptionsOf i) ∧
  (∀ (s : State) (r : Refusal), step s ≠ .refused r)

/-- Every step keeps the invariant: pc a multiple of 4, x0 = 0, XLEN-bit registers, memory well-formed and in range. Cites
60_exceptions.md R564, 10_state.md R30, 10_state.md R32, 20_memory.md R71. -/
def Obligations.StepKeepsTheInvariant : Prop :=
  ∀ s t : State, s.Inv → step s = .next t → t.Inv ∧ t.params = s.params

/-- The state after reset has the invariant and the values R50 gives, for all legal parameters and well-formed images. Cites
10_state.md R50, 60_exceptions.md R564. -/
def Obligations.ResetHasTheInvariant : Prop :=
  State.reset.Inv ∧
  ∀ (p : Params) (image : Memory), p.legal = true → image.wf = true →
    (∀ c ∈ image.cells, p.memBase ≤ c.1 ∧ c.1 < p.memBase + p.memSize) →
    (State.resetWith p image).Inv ∧ (State.resetWith p image).getPc.toNat = p.resetPc ∧
    (State.resetWith p image).readX 0 = 0 ∧ (State.resetWith p image).res = none ∧
    (State.resetWith p image).stale = [] ∧ (State.resetWith p image).mem = image ∧ (State.resetWith p image).params = p

/-- Decoding the word of any well-formed instruction gives that instruction, with every operand, at both widths. Cites
30_encoding.md R121, 30_encoding.md R131, 30_encoding.md R138. -/
def Obligations.DecodeOfEncodeIsTheInstruction : Prop :=
  ∀ (xl : XLen) (i : Instr), i.wf xl = true → decode xl (encode i) = .ok i

/-- A word that decodes is the encoding of what it decodes to, so no bit of a word is dropped. Cites 30_encoding.md R121,
30_encoding.md R131, 30_encoding.md R138. -/
def Obligations.EncodeOfDecodeIsTheWord : Prop :=
  ∀ (xl : XLen) (w : InstWord) (i : Instr), decode xl w = .ok i → encode i = w ∧ i.wf xl = true

/-- The words the spec writes out for one instruction of each family decode to it with the operands the spec gives. Cites
40_arithmetic_compare.md R201, 41_data_transfer.md R235, 42_logical_shift.md R271, 43_control_transfer.md R301,
43_control_transfer.md R307, 44_memory_order_environment.md R320, 45_muldiv.md R342, 46_atomics.md R373, 47_fp_single.md
R430, 48_fp_double.md R488, 49_zicsr.md R526. -/
def Obligations.WrittenOutWordsDecode : Prop :=
  decode .rv64 0x007302b3 = .ok (.add 5 6 7) ∧ decode .rv64 0x02532423 = .ok (.sw 6 5 40) ∧
  decode .rv64 0x40335293 = .ok (.srai 5 6 3) ∧ decode .rv64 0x06628263 = .ok (.beq 5 6 100) ∧
  decode .rv64 0x064000ef = .ok (.jal 1 100) ∧ decode .rv64 0x027312b3 = .ok (.mulh 5 6 7) ∧
  decode .rv64 0x0310000f = .ok (.fence 0 0b0011 0b0001 0 0) ∧
  decode .rv64 0x185323af = .ok (.scW 7 6 5 false false) ∧ decode .rv64 0x407372cf = .ok (.fnmaddS 5 6 7 8 7) ∧
  decode .rv64 0x401372d3 = .ok (.fcvtSD 5 6 7) ∧ decode .rv64 0x0032f2f3 = .ok (.csrrci 5 5 3)

/-- The conversion from D to S rounds the number once in the mode; a zero or infinity keeps its sign, NaNs are canonical.
Cites 48_fp_double.md R488. -/
def Obligations.NarrowingToSingleRoundsOnce : Prop :=
  ∀ (m : RMode) (a : Pattern .double),
  (isSNaN .double a → fpConvert .double .single m a = (canonicalNaN .single, flagNV)) ∧
  (isNaN .double a → ¬ isSNaN .double a → fpConvert .double .single m a = (canonicalNaN .single, flagNone)) ∧
  (isInf .double a → fpConvert .double .single m a = (infOf .single (signOf .double a), flagNone)) ∧
  (isFinite .double a → ∀ v : Frac, 0 < v.den → v.toRat = ratOf .double a →
    fpConvert .double .single m a = round .single m v (signOf .double a))
end

