-- ==== Sys2Proof/Laws/State.lean ====
section
/-! SUPPORT. What each update of the state leaves in each field, so that no proof unfolds a record update. -/

namespace Sys2Proof.Machine

open Sys2Proof

@[simp] theorem State.setPc_params (s : State) (t : Word) : (s.setPc t).params = s.params := rfl
@[simp] theorem State.setPc_pc (s : State) (t : Word) : (s.setPc t).pc = narrow s.xlen t := rfl
@[simp] theorem State.setPc_x (s : State) (t : Word) : (s.setPc t).x = s.x := rfl
@[simp] theorem State.setPc_f (s : State) (t : Word) : (s.setPc t).f = s.f := rfl
@[simp] theorem State.setPc_fcsr (s : State) (t : Word) : (s.setPc t).fcsr = s.fcsr := rfl
@[simp] theorem State.setPc_res (s : State) (t : Word) : (s.setPc t).res = s.res := rfl
@[simp] theorem State.setPc_mem (s : State) (t : Word) : (s.setPc t).mem = s.mem := rfl
@[simp] theorem State.setPc_stale (s : State) (t : Word) : (s.setPc t).stale = s.stale := rfl
@[simp] theorem State.setPc_draws (s : State) (t : Word) : (s.setPc t).draws = s.draws := rfl

@[simp] theorem State.advance_params (s : State) : (s.advance).params = s.params := rfl
@[simp] theorem State.advance_pc (s : State) : (s.advance).pc = narrow s.xlen s.nextPc := rfl
@[simp] theorem State.advance_x (s : State) : (s.advance).x = s.x := rfl
@[simp] theorem State.advance_f (s : State) : (s.advance).f = s.f := rfl
@[simp] theorem State.advance_fcsr (s : State) : (s.advance).fcsr = s.fcsr := rfl
@[simp] theorem State.advance_res (s : State) : (s.advance).res = s.res := rfl
@[simp] theorem State.advance_mem (s : State) : (s.advance).mem = s.mem := rfl
@[simp] theorem State.advance_stale (s : State) : (s.advance).stale = s.stale := rfl
@[simp] theorem State.advance_draws (s : State) : (s.advance).draws = s.draws := rfl

@[simp] theorem State.writeF_params (s : State) (r : FReg) (v : BitVec 64) : (s.writeF r v).params = s.params := rfl
@[simp] theorem State.writeF_pc (s : State) (r : FReg) (v : BitVec 64) : (s.writeF r v).pc = s.pc := rfl
@[simp] theorem State.writeF_x (s : State) (r : FReg) (v : BitVec 64) : (s.writeF r v).x = s.x := rfl
@[simp] theorem State.writeF_f (s : State) (r : FReg) (v : BitVec 64) : (s.writeF r v).f = s.f.set r.toFin v := rfl
@[simp] theorem State.writeF_fcsr (s : State) (r : FReg) (v : BitVec 64) : (s.writeF r v).fcsr = s.fcsr := rfl
@[simp] theorem State.writeF_res (s : State) (r : FReg) (v : BitVec 64) : (s.writeF r v).res = s.res := rfl
@[simp] theorem State.writeF_mem (s : State) (r : FReg) (v : BitVec 64) : (s.writeF r v).mem = s.mem := rfl
@[simp] theorem State.writeF_stale (s : State) (r : FReg) (v : BitVec 64) : (s.writeF r v).stale = s.stale := rfl
@[simp] theorem State.writeF_draws (s : State) (r : FReg) (v : BitVec 64) : (s.writeF r v).draws = s.draws := rfl

@[simp] theorem State.setFflags_params (s : State) (v : BitVec 5) : (s.setFflags v).params = s.params := rfl
@[simp] theorem State.setFflags_pc (s : State) (v : BitVec 5) : (s.setFflags v).pc = s.pc := rfl
@[simp] theorem State.setFflags_x (s : State) (v : BitVec 5) : (s.setFflags v).x = s.x := rfl
@[simp] theorem State.setFflags_f (s : State) (v : BitVec 5) : (s.setFflags v).f = s.f := rfl
@[simp] theorem State.setFflags_fcsr (s : State) (v : BitVec 5) : (s.setFflags v).fcsr = s.frm ++ v := rfl
@[simp] theorem State.setFflags_res (s : State) (v : BitVec 5) : (s.setFflags v).res = s.res := rfl
@[simp] theorem State.setFflags_mem (s : State) (v : BitVec 5) : (s.setFflags v).mem = s.mem := rfl
@[simp] theorem State.setFflags_stale (s : State) (v : BitVec 5) : (s.setFflags v).stale = s.stale := rfl
@[simp] theorem State.setFflags_draws (s : State) (v : BitVec 5) : (s.setFflags v).draws = s.draws := rfl

@[simp] theorem State.setFrm_params (s : State) (v : BitVec 3) : (s.setFrm v).params = s.params := rfl
@[simp] theorem State.setFrm_pc (s : State) (v : BitVec 3) : (s.setFrm v).pc = s.pc := rfl
@[simp] theorem State.setFrm_x (s : State) (v : BitVec 3) : (s.setFrm v).x = s.x := rfl
@[simp] theorem State.setFrm_f (s : State) (v : BitVec 3) : (s.setFrm v).f = s.f := rfl
@[simp] theorem State.setFrm_fcsr (s : State) (v : BitVec 3) : (s.setFrm v).fcsr = v ++ s.fflags := rfl
@[simp] theorem State.setFrm_res (s : State) (v : BitVec 3) : (s.setFrm v).res = s.res := rfl
@[simp] theorem State.setFrm_mem (s : State) (v : BitVec 3) : (s.setFrm v).mem = s.mem := rfl
@[simp] theorem State.setFrm_stale (s : State) (v : BitVec 3) : (s.setFrm v).stale = s.stale := rfl
@[simp] theorem State.setFrm_draws (s : State) (v : BitVec 3) : (s.setFrm v).draws = s.draws := rfl

@[simp] theorem State.setFcsr_params (s : State) (v : BitVec 8) : (s.setFcsr v).params = s.params := rfl
@[simp] theorem State.setFcsr_pc (s : State) (v : BitVec 8) : (s.setFcsr v).pc = s.pc := rfl
@[simp] theorem State.setFcsr_x (s : State) (v : BitVec 8) : (s.setFcsr v).x = s.x := rfl
@[simp] theorem State.setFcsr_f (s : State) (v : BitVec 8) : (s.setFcsr v).f = s.f := rfl
@[simp] theorem State.setFcsr_fcsr (s : State) (v : BitVec 8) : (s.setFcsr v).fcsr = v := rfl
@[simp] theorem State.setFcsr_res (s : State) (v : BitVec 8) : (s.setFcsr v).res = s.res := rfl
@[simp] theorem State.setFcsr_mem (s : State) (v : BitVec 8) : (s.setFcsr v).mem = s.mem := rfl
@[simp] theorem State.setFcsr_stale (s : State) (v : BitVec 8) : (s.setFcsr v).stale = s.stale := rfl
@[simp] theorem State.setFcsr_draws (s : State) (v : BitVec 8) : (s.setFcsr v).draws = s.draws := rfl

@[simp] theorem State.accrue_params (s : State) (fl : BitVec 5) : (s.accrue fl).params = s.params := rfl
@[simp] theorem State.accrue_pc (s : State) (fl : BitVec 5) : (s.accrue fl).pc = s.pc := rfl
@[simp] theorem State.accrue_x (s : State) (fl : BitVec 5) : (s.accrue fl).x = s.x := rfl
@[simp] theorem State.accrue_f (s : State) (fl : BitVec 5) : (s.accrue fl).f = s.f := rfl
@[simp] theorem State.accrue_fcsr (s : State) (fl : BitVec 5) : (s.accrue fl).fcsr = s.frm ++ (s.fflags ||| fl) := rfl
@[simp] theorem State.accrue_res (s : State) (fl : BitVec 5) : (s.accrue fl).res = s.res := rfl
@[simp] theorem State.accrue_mem (s : State) (fl : BitVec 5) : (s.accrue fl).mem = s.mem := rfl
@[simp] theorem State.accrue_stale (s : State) (fl : BitVec 5) : (s.accrue fl).stale = s.stale := rfl
@[simp] theorem State.accrue_draws (s : State) (fl : BitVec 5) : (s.accrue fl).draws = s.draws := rfl

@[simp] theorem State.storeByte_params (s : State) (a : Nat) (v : Byte) : (s.storeByte a v).params = s.params := rfl
@[simp] theorem State.storeByte_pc (s : State) (a : Nat) (v : Byte) : (s.storeByte a v).pc = s.pc := rfl
@[simp] theorem State.storeByte_x (s : State) (a : Nat) (v : Byte) : (s.storeByte a v).x = s.x := rfl
@[simp] theorem State.storeByte_f (s : State) (a : Nat) (v : Byte) : (s.storeByte a v).f = s.f := rfl
@[simp] theorem State.storeByte_fcsr (s : State) (a : Nat) (v : Byte) : (s.storeByte a v).fcsr = s.fcsr := rfl
@[simp] theorem State.storeByte_res (s : State) (a : Nat) (v : Byte) : (s.storeByte a v).res = s.res := rfl
@[simp] theorem State.storeByte_mem (s : State) (a : Nat) (v : Byte) : (s.storeByte a v).mem = s.mem.write a v := rfl
@[simp] theorem State.storeByte_stale (s : State) (a : Nat) (v : Byte) : (s.storeByte a v).stale = addStale s.stale (a, s.mem.read a) := rfl
@[simp] theorem State.storeByte_draws (s : State) (a : Nat) (v : Byte) : (s.storeByte a v).draws = s.draws := rfl

@[simp] theorem State.reserve_params (s : State) (a : Word) (n : MemSize) : (s.reserve a n).params = s.params := rfl
@[simp] theorem State.reserve_pc (s : State) (a : Word) (n : MemSize) : (s.reserve a n).pc = s.pc := rfl
@[simp] theorem State.reserve_x (s : State) (a : Word) (n : MemSize) : (s.reserve a n).x = s.x := rfl
@[simp] theorem State.reserve_f (s : State) (a : Word) (n : MemSize) : (s.reserve a n).f = s.f := rfl
@[simp] theorem State.reserve_fcsr (s : State) (a : Word) (n : MemSize) : (s.reserve a n).fcsr = s.fcsr := rfl
@[simp] theorem State.reserve_res (s : State) (a : Word) (n : MemSize) : (s.reserve a n).res = some { addr := a, size := n } := rfl
@[simp] theorem State.reserve_mem (s : State) (a : Word) (n : MemSize) : (s.reserve a n).mem = s.mem := rfl
@[simp] theorem State.reserve_stale (s : State) (a : Word) (n : MemSize) : (s.reserve a n).stale = s.stale := rfl
@[simp] theorem State.reserve_draws (s : State) (a : Word) (n : MemSize) : (s.reserve a n).draws = s.draws := rfl

@[simp] theorem State.unreserve_params (s : State) : (s.unreserve).params = s.params := rfl
@[simp] theorem State.unreserve_pc (s : State) : (s.unreserve).pc = s.pc := rfl
@[simp] theorem State.unreserve_x (s : State) : (s.unreserve).x = s.x := rfl
@[simp] theorem State.unreserve_f (s : State) : (s.unreserve).f = s.f := rfl
@[simp] theorem State.unreserve_fcsr (s : State) : (s.unreserve).fcsr = s.fcsr := rfl
@[simp] theorem State.unreserve_res (s : State) : (s.unreserve).res = none := rfl
@[simp] theorem State.unreserve_mem (s : State) : (s.unreserve).mem = s.mem := rfl
@[simp] theorem State.unreserve_stale (s : State) : (s.unreserve).stale = s.stale := rfl
@[simp] theorem State.unreserve_draws (s : State) : (s.unreserve).draws = s.draws := rfl

@[simp] theorem State.drew_params (s : State) : (s.drew).params = s.params := rfl
@[simp] theorem State.drew_pc (s : State) : (s.drew).pc = s.pc := rfl
@[simp] theorem State.drew_x (s : State) : (s.drew).x = s.x := rfl
@[simp] theorem State.drew_f (s : State) : (s.drew).f = s.f := rfl
@[simp] theorem State.drew_fcsr (s : State) : (s.drew).fcsr = s.fcsr := rfl
@[simp] theorem State.drew_res (s : State) : (s.drew).res = s.res := rfl
@[simp] theorem State.drew_mem (s : State) : (s.drew).mem = s.mem := rfl
@[simp] theorem State.drew_stale (s : State) : (s.drew).stale = s.stale := rfl
@[simp] theorem State.drew_draws (s : State) : (s.drew).draws = s.draws + 1 := rfl

@[simp] theorem State.syncFetch_params (s : State) : (s.syncFetch).params = s.params := rfl
@[simp] theorem State.syncFetch_pc (s : State) : (s.syncFetch).pc = s.pc := rfl
@[simp] theorem State.syncFetch_x (s : State) : (s.syncFetch).x = s.x := rfl
@[simp] theorem State.syncFetch_f (s : State) : (s.syncFetch).f = s.f := rfl
@[simp] theorem State.syncFetch_fcsr (s : State) : (s.syncFetch).fcsr = s.fcsr := rfl
@[simp] theorem State.syncFetch_res (s : State) : (s.syncFetch).res = s.res := rfl
@[simp] theorem State.syncFetch_mem (s : State) : (s.syncFetch).mem = s.mem := rfl
@[simp] theorem State.syncFetch_stale (s : State) : (s.syncFetch).stale = [] := rfl
@[simp] theorem State.syncFetch_draws (s : State) : (s.syncFetch).draws = s.draws := rfl

@[simp] theorem State.writeX_params (s : State) (r : XReg) (v : Word) : (s.writeX r v).params = s.params := by
  unfold State.writeX; split <;> rfl
@[simp] theorem State.writeX_pc (s : State) (r : XReg) (v : Word) : (s.writeX r v).pc = s.pc := by
  unfold State.writeX; split <;> rfl
@[simp] theorem State.writeX_f (s : State) (r : XReg) (v : Word) : (s.writeX r v).f = s.f := by
  unfold State.writeX; split <;> rfl
@[simp] theorem State.writeX_fcsr (s : State) (r : XReg) (v : Word) : (s.writeX r v).fcsr = s.fcsr := by
  unfold State.writeX; split <;> rfl
@[simp] theorem State.writeX_res (s : State) (r : XReg) (v : Word) : (s.writeX r v).res = s.res := by
  unfold State.writeX; split <;> rfl
@[simp] theorem State.writeX_mem (s : State) (r : XReg) (v : Word) : (s.writeX r v).mem = s.mem := by
  unfold State.writeX; split <;> rfl
@[simp] theorem State.writeX_stale (s : State) (r : XReg) (v : Word) : (s.writeX r v).stale = s.stale := by
  unfold State.writeX; split <;> rfl
@[simp] theorem State.writeX_draws (s : State) (r : XReg) (v : Word) : (s.writeX r v).draws = s.draws := by
  unfold State.writeX; split <;> rfl
theorem State.writeX_x_zero (s : State) (v : Word) : (s.writeX 0 v).x = s.x := rfl
theorem State.writeX_x (s : State) (r : XReg) (v : Word) (h : r ≠ 0) :
    (s.writeX r v).x = s.x.set r.toFin (narrow s.xlen v) := by
  unfold State.writeX; rw [if_neg h]

@[simp] theorem State.writeLE_params (s : State) (a v : Word) (n : Nat) : (s.writeLE a v n).params = s.params := by
  induction n with
  | zero => rfl
  | succ n ih => exact ih
@[simp] theorem State.writeLE_pc (s : State) (a v : Word) (n : Nat) : (s.writeLE a v n).pc = s.pc := by
  induction n with
  | zero => rfl
  | succ n ih => exact ih
@[simp] theorem State.writeLE_x (s : State) (a v : Word) (n : Nat) : (s.writeLE a v n).x = s.x := by
  induction n with
  | zero => rfl
  | succ n ih => exact ih
@[simp] theorem State.writeLE_f (s : State) (a v : Word) (n : Nat) : (s.writeLE a v n).f = s.f := by
  induction n with
  | zero => rfl
  | succ n ih => exact ih
@[simp] theorem State.writeLE_fcsr (s : State) (a v : Word) (n : Nat) : (s.writeLE a v n).fcsr = s.fcsr := by
  induction n with
  | zero => rfl
  | succ n ih => exact ih
@[simp] theorem State.writeLE_res (s : State) (a v : Word) (n : Nat) : (s.writeLE a v n).res = s.res := by
  induction n with
  | zero => rfl
  | succ n ih => exact ih
@[simp] theorem State.writeLE_draws (s : State) (a v : Word) (n : Nat) : (s.writeLE a v n).draws = s.draws := by
  induction n with
  | zero => rfl
  | succ n ih => exact ih
@[simp] theorem State.writeMem_params (s : State) (a : Word) (n : MemSize) (v : Word) : (s.writeMem a n v).params = s.params :=
  s.writeLE_params a v n.bytes
@[simp] theorem State.writeMem_pc (s : State) (a : Word) (n : MemSize) (v : Word) : (s.writeMem a n v).pc = s.pc :=
  s.writeLE_pc a v n.bytes
@[simp] theorem State.writeMem_x (s : State) (a : Word) (n : MemSize) (v : Word) : (s.writeMem a n v).x = s.x :=
  s.writeLE_x a v n.bytes
@[simp] theorem State.writeMem_f (s : State) (a : Word) (n : MemSize) (v : Word) : (s.writeMem a n v).f = s.f :=
  s.writeLE_f a v n.bytes
@[simp] theorem State.writeMem_fcsr (s : State) (a : Word) (n : MemSize) (v : Word) : (s.writeMem a n v).fcsr = s.fcsr :=
  s.writeLE_fcsr a v n.bytes
@[simp] theorem State.writeMem_res (s : State) (a : Word) (n : MemSize) (v : Word) : (s.writeMem a n v).res = s.res :=
  s.writeLE_res a v n.bytes
@[simp] theorem State.writeMem_draws (s : State) (a : Word) (n : MemSize) (v : Word) : (s.writeMem a n v).draws = s.draws :=
  s.writeLE_draws a v n.bytes

@[simp] theorem State.writeFmt_params (s : State) (F : Fmt) (r : FReg) (v : Pattern F) : (s.writeFmt F r v).params = s.params := by
  cases F <;> rfl
@[simp] theorem State.writeFmt_pc (s : State) (F : Fmt) (r : FReg) (v : Pattern F) : (s.writeFmt F r v).pc = s.pc := by
  cases F <;> rfl
@[simp] theorem State.writeFmt_x (s : State) (F : Fmt) (r : FReg) (v : Pattern F) : (s.writeFmt F r v).x = s.x := by
  cases F <;> rfl
@[simp] theorem State.writeFmt_fcsr (s : State) (F : Fmt) (r : FReg) (v : Pattern F) : (s.writeFmt F r v).fcsr = s.fcsr := by
  cases F <;> rfl
@[simp] theorem State.writeFmt_res (s : State) (F : Fmt) (r : FReg) (v : Pattern F) : (s.writeFmt F r v).res = s.res := by
  cases F <;> rfl
@[simp] theorem State.writeFmt_mem (s : State) (F : Fmt) (r : FReg) (v : Pattern F) : (s.writeFmt F r v).mem = s.mem := by
  cases F <;> rfl
@[simp] theorem State.writeFmt_stale (s : State) (F : Fmt) (r : FReg) (v : Pattern F) : (s.writeFmt F r v).stale = s.stale := by
  cases F <;> rfl
@[simp] theorem State.writeFmt_draws (s : State) (F : Fmt) (r : FReg) (v : Pattern F) : (s.writeFmt F r v).draws = s.draws := by
  cases F <;> rfl

@[simp] theorem State.csrWrite_params (s : State) (a : CsrAddr) (v : Word) : (s.csrWrite a v).params = s.params := by
  unfold State.csrWrite; split
  · rfl
  · split <;> rfl
@[simp] theorem State.csrWrite_pc (s : State) (a : CsrAddr) (v : Word) : (s.csrWrite a v).pc = s.pc := by
  unfold State.csrWrite; split
  · rfl
  · split <;> rfl
@[simp] theorem State.csrWrite_x (s : State) (a : CsrAddr) (v : Word) : (s.csrWrite a v).x = s.x := by
  unfold State.csrWrite; split
  · rfl
  · split <;> rfl
@[simp] theorem State.csrWrite_f (s : State) (a : CsrAddr) (v : Word) : (s.csrWrite a v).f = s.f := by
  unfold State.csrWrite; split
  · rfl
  · split <;> rfl
@[simp] theorem State.csrWrite_res (s : State) (a : CsrAddr) (v : Word) : (s.csrWrite a v).res = s.res := by
  unfold State.csrWrite; split
  · rfl
  · split <;> rfl
@[simp] theorem State.csrWrite_mem (s : State) (a : CsrAddr) (v : Word) : (s.csrWrite a v).mem = s.mem := by
  unfold State.csrWrite; split
  · rfl
  · split <;> rfl
@[simp] theorem State.csrWrite_stale (s : State) (a : CsrAddr) (v : Word) : (s.csrWrite a v).stale = s.stale := by
  unfold State.csrWrite; split
  · rfl
  · split <;> rfl
@[simp] theorem State.csrWrite_draws (s : State) (a : CsrAddr) (v : Word) : (s.csrWrite a v).draws = s.draws := by
  unfold State.csrWrite; split
  · rfl
  · split <;> rfl

@[simp] theorem State.setPc_xlen (s : State) (t : Word) : (s.setPc t).xlen = s.xlen := congrArg Params.xlen (s.setPc_params t)
@[simp] theorem State.advance_xlen (s : State) : (s.advance).xlen = s.xlen := congrArg Params.xlen (s.advance_params)
@[simp] theorem State.writeF_xlen (s : State) (r : FReg) (v : BitVec 64) : (s.writeF r v).xlen = s.xlen := congrArg Params.xlen (s.writeF_params r v)
@[simp] theorem State.setFflags_xlen (s : State) (v : BitVec 5) : (s.setFflags v).xlen = s.xlen := congrArg Params.xlen (s.setFflags_params v)
@[simp] theorem State.setFrm_xlen (s : State) (v : BitVec 3) : (s.setFrm v).xlen = s.xlen := congrArg Params.xlen (s.setFrm_params v)
@[simp] theorem State.setFcsr_xlen (s : State) (v : BitVec 8) : (s.setFcsr v).xlen = s.xlen := congrArg Params.xlen (s.setFcsr_params v)
@[simp] theorem State.accrue_xlen (s : State) (fl : BitVec 5) : (s.accrue fl).xlen = s.xlen := congrArg Params.xlen (s.accrue_params fl)
@[simp] theorem State.storeByte_xlen (s : State) (a : Nat) (v : Byte) : (s.storeByte a v).xlen = s.xlen := congrArg Params.xlen (s.storeByte_params a v)
@[simp] theorem State.reserve_xlen (s : State) (a : Word) (n : MemSize) : (s.reserve a n).xlen = s.xlen := congrArg Params.xlen (s.reserve_params a n)
@[simp] theorem State.unreserve_xlen (s : State) : (s.unreserve).xlen = s.xlen := congrArg Params.xlen (s.unreserve_params)
@[simp] theorem State.drew_xlen (s : State) : (s.drew).xlen = s.xlen := congrArg Params.xlen (s.drew_params)
@[simp] theorem State.syncFetch_xlen (s : State) : (s.syncFetch).xlen = s.xlen := congrArg Params.xlen (s.syncFetch_params)
@[simp] theorem State.writeX_xlen (s : State) (r : XReg) (v : Word) : (s.writeX r v).xlen = s.xlen := congrArg Params.xlen (s.writeX_params r v)
@[simp] theorem State.writeMem_xlen (s : State) (a : Word) (n : MemSize) (v : Word) : (s.writeMem a n v).xlen = s.xlen := congrArg Params.xlen (s.writeMem_params a n v)
@[simp] theorem State.writeLE_xlen (s : State) (a v : Word) (n : Nat) : (s.writeLE a v n).xlen = s.xlen := congrArg Params.xlen (s.writeLE_params a v n)
@[simp] theorem State.writeFmt_xlen (s : State) (F : Fmt) (r : FReg) (v : Pattern F) : (s.writeFmt F r v).xlen = s.xlen := congrArg Params.xlen (s.writeFmt_params F r v)
@[simp] theorem State.csrWrite_xlen (s : State) (a : CsrAddr) (v : Word) : (s.csrWrite a v).xlen = s.xlen := congrArg Params.xlen (s.csrWrite_params a v)

/-! ### Reading registers after updates -/

@[simp] theorem narrow_narrow (xl : XLen) (v : Word) : narrow xl (narrow xl v) = narrow xl v := by
  cases xl
  · simp [narrow]
  · rfl

theorem State.readX_congr {s t : State} (hp : t.params = s.params) (hx : t.x = s.x) (r : XReg) : t.readX r = s.readX r := by
  unfold State.readX State.xlen; rw [hp, hx]

@[simp] theorem State.readX_zero (s : State) : s.readX 0 = 0 := rfl

@[simp] theorem State.narrow_readX (s : State) (r : XReg) : narrow s.xlen (s.readX r) = s.readX r := by
  unfold State.readX; split
  · cases s.xlen <;> rfl
  · exact narrow_narrow _ _

/-- x[rd] after a write of another register than x0 (10_state.md R30). -/
theorem State.readX_writeX_same (s : State) (r : XReg) (v : Word) (h : r ≠ 0) : (s.writeX r v).readX r = narrow s.xlen v := by
  unfold State.readX
  rw [if_neg h, State.writeX_xlen]
  simp [State.writeX_x s r v h]

/-- A write leaves the other registers alone (10_state.md R30). -/
theorem State.readX_writeX_other (s : State) (r q : XReg) (v : Word) (h : q ≠ r) : (s.writeX r v).readX q = s.readX q := by
  by_cases hr : r = 0
  · subst hr; rfl
  · unfold State.readX
    rw [State.writeX_xlen]
    split
    · rfl
    · rw [State.writeX_x s r v hr]
      have hne : r.toNat ≠ q.toNat := fun hv => h (BitVec.eq_of_toNat_eq hv.symm)
      simp [hne]

@[simp] theorem State.readF_writeF_same (s : State) (r : FReg) (v : BitVec 64) : (s.writeF r v).readF r = v := by
  simp [State.readF, State.writeF]

theorem State.readF_writeF_other (s : State) (r q : FReg) (v : BitVec 64) (h : q ≠ r) : (s.writeF r v).readF q = s.readF q := by
  have hne : r.toNat ≠ q.toNat := fun hv => h (BitVec.eq_of_toNat_eq hv.symm)
  simp [State.readF, State.writeF, hne]

theorem extract_append_high {m n : Nat} (a : BitVec m) (b : BitVec n) : (a ++ b).extractLsb' n m = a := by
  apply BitVec.eq_of_getLsbD_eq; intro i hi
  simp [BitVec.getLsbD_append, hi]

theorem extract_append_low {m n : Nat} (a : BitVec m) (b : BitVec n) : (a ++ b).extractLsb' 0 n = b := by
  apply BitVec.eq_of_getLsbD_eq; intro i hi
  simp [BitVec.getLsbD_append, hi]

theorem setWidth_append_low {m n : Nat} (a : BitVec m) (b : BitVec n) : (a ++ b).setWidth n = b := by
  apply BitVec.eq_of_getLsbD_eq; intro i hi
  simp [BitVec.getLsbD_append, hi]

/-- A boxed single reads back (47_fp_single.md R401). -/
@[simp] theorem unbox_box (v : BitVec 32) : unbox (box v) = v :=
  (if_pos (extract_append_high 0xffffffff#32 v)).trans (setWidth_append_low 0xffffffff#32 v)

/-- What a format's write leaves in the register it wrote (47_fp_single.md R402). -/
@[simp] theorem State.readFmt_writeFmt_same (s : State) (F : Fmt) (r : FReg) (v : Pattern F) :
    (s.writeFmt F r v).readFmt F r = v := by
  cases F
  · exact (congrArg unbox (State.readF_writeF_same s r (box v))).trans (unbox_box v)
  · exact State.readF_writeF_same s r v

theorem State.readF_writeFmt_other (s : State) (F : Fmt) (r q : FReg) (v : Pattern F) (h : q ≠ r) :
    (s.writeFmt F r v).readF q = s.readF q := by
  cases F <;> exact State.readF_writeF_other s r q _ h

@[simp] theorem State.fflags_setFflags (s : State) (v : BitVec 5) : (s.setFflags v).fflags = v := extract_append_low s.frm v
@[simp] theorem State.frm_setFflags (s : State) (v : BitVec 5) : (s.setFflags v).frm = s.frm := extract_append_high s.frm v
@[simp] theorem State.fflags_setFrm (s : State) (v : BitVec 3) : (s.setFrm v).fflags = s.fflags := extract_append_low v s.fflags
@[simp] theorem State.frm_setFrm (s : State) (v : BitVec 3) : (s.setFrm v).frm = v := extract_append_high v s.fflags
@[simp] theorem State.fflags_accrue (s : State) (fl : BitVec 5) : (s.accrue fl).fflags = s.fflags ||| fl :=
  s.fflags_setFflags _
@[simp] theorem State.frm_accrue (s : State) (fl : BitVec 5) : (s.accrue fl).frm = s.frm := s.frm_setFflags _

end Sys2Proof.Machine
end

