-- ==== Sys2Proof/Laws/Memory.lean ====
section
/-! SUPPORT. The laws of the memory: a byte written reads back, other bytes stay, and every operation keeps the canonical
form. -/

namespace Sys2Proof.Machine

open Sys2Proof

theorem readCells_insertCell (l : List Host.Cell) (a q : Nat) (v : Byte) :
    readCells (insertCell l a v) q = if q = a then v else readCells l q := by
  induction l with
  | nil =>
    by_cases h : q = a
    · simp [insertCell, readCells, h]
    · simp [insertCell, readCells, h, Ne.symm h]
  | cons c l ih =>
    obtain ⟨k, b⟩ := c
    unfold insertCell
    split
    · rename_i hk
      simp only [readCells, ih]
      by_cases hq : k = q
      · subst hq; simp [Nat.ne_of_lt hk]
      · simp [hq]
    · split
      · rename_i hk hka
        subst hka
        by_cases hq : q = k
        · simp [readCells, hq]
        · simp [readCells, hq, Ne.symm hq]
      · by_cases hq : q = a
        · simp [readCells, hq]
        · simp [readCells, hq, Ne.symm hq]

theorem readCells_filter (l : List Host.Cell) (a q : Nat) :
    readCells (l.filter (fun c => c.1 ≠ a)) q = if q = a then unlistedByte else readCells l q := by
  induction l with
  | nil => by_cases h : q = a <;> simp [readCells, h]
  | cons c l ih =>
    obtain ⟨k, b⟩ := c
    by_cases hk : k = a
    · subst hk
      by_cases hq : q = k
      · simpa [hq] using ih
      · simpa [hq, readCells, Ne.symm hq] using ih
    · have hf : List.filter (fun c => decide (c.1 ≠ a)) ((k, b) :: l) = (k, b) :: List.filter (fun c => decide (c.1 ≠ a)) l := by
        simp [hk]
      rw [hf]
      simp only [readCells, ih]
      by_cases hq : k = q
      · subst hq; simp [hk]
      · simp [hq]

/-- A byte written reads back, and every other byte is as before (20_memory.md R70). -/
theorem Memory.read_write (m : Memory) (a q : Nat) (v : Byte) : (m.write a v).read q = if q = a then v else m.read q := by
  unfold Memory.read Memory.write writeCells
  split
  · rename_i h; rw [readCells_filter, h]
  · exact readCells_insertCell _ _ _ _

@[simp] theorem Memory.read_write_same (m : Memory) (a : Nat) (v : Byte) : (m.write a v).read a = v := by
  simp [Memory.read_write]

theorem Memory.read_write_other (m : Memory) (a q : Nat) (v : Byte) (h : q ≠ a) : (m.write a v).read q = m.read q := by
  simp [Memory.read_write, h]

theorem cellsFrom_mono {lo lo' : Nat} (h : lo' ≤ lo) (l : List Host.Cell) (hl : cellsFrom lo l = true) :
    cellsFrom lo' l = true := by
  cases l with
  | nil => rfl
  | cons c l =>
    simp only [cellsFrom, Bool.and_eq_true, decide_eq_true_eq] at hl ⊢
    exact ⟨⟨by omega, hl.1.2⟩, hl.2⟩

theorem cellsFrom_insertCell (l : List Host.Cell) (lo a : Nat) (v : Byte) (hv : v ≠ unlistedByte) (ha : lo ≤ a)
    (hl : cellsFrom lo l = true) : cellsFrom lo (insertCell l a v) = true := by
  induction l generalizing lo with
  | nil => simp [insertCell, cellsFrom, ha, hv]
  | cons c l ih =>
    obtain ⟨k, b⟩ := c
    simp only [cellsFrom, Bool.and_eq_true, decide_eq_true_eq] at hl
    unfold insertCell
    split
    · rename_i hk
      simp only [cellsFrom, Bool.and_eq_true, decide_eq_true_eq]
      exact ⟨hl.1, ih (k + 1) hk hl.2⟩
    · split
      · rename_i hka
        subst hka
        simp [cellsFrom, ha, hv, hl.2]
      · simp only [cellsFrom, Bool.and_eq_true, decide_eq_true_eq]
        exact ⟨⟨ha, hv⟩, ⟨by omega, hl.1.2⟩, hl.2⟩

theorem cellsFrom_filter (l : List Host.Cell) (lo : Nat) (p : Host.Cell → Bool) (hl : cellsFrom lo l = true) :
    cellsFrom lo (l.filter p) = true := by
  induction l generalizing lo with
  | nil => rfl
  | cons c l ih =>
    obtain ⟨k, b⟩ := c
    simp only [cellsFrom, Bool.and_eq_true, decide_eq_true_eq] at hl
    rw [List.filter_cons]
    split
    · simp only [cellsFrom, Bool.and_eq_true, decide_eq_true_eq]
      exact ⟨hl.1, ih (k + 1) hl.2⟩
    · exact cellsFrom_mono (by omega) _ (ih (k + 1) hl.2)

/-- A write keeps the canonical form. -/
theorem Memory.wf_write (m : Memory) (a : Nat) (v : Byte) (h : m.wf = true) : (m.write a v).wf = true := by
  unfold Memory.wf Memory.write writeCells at *
  split
  · exact cellsFrom_filter _ _ _ h
  · rename_i hv
    exact cellsFrom_insertCell _ _ _ _ hv (Nat.zero_le a) h

/-- A store of the hart keeps the canonical form. -/
theorem State.wf_writeLE (s : State) (a v : Word) (n : Nat) (h : s.mem.wf = true) : (s.writeLE a v n).mem.wf = true := by
  induction n with
  | zero => exact h
  | succ n ih => exact Memory.wf_write _ _ _ ih

theorem State.wf_writeMem (s : State) (a : Word) (n : MemSize) (v : Word) (h : s.mem.wf = true) :
    (s.writeMem a n v).mem.wf = true := s.wf_writeLE a v n.bytes h

/-- Loading by the environment keeps the canonical form. -/
theorem State.wf_load (s : State) (l : List Host.Cell) (h : s.mem.wf = true) : (s.load l).mem.wf = true := by
  induction l generalizing s with
  | nil => exact h
  | cons c l ih => exact ih _ (Memory.wf_write _ _ _ h)

/-- The memory after reset is in canonical form. -/
theorem State.wf_reset : State.reset.mem.wf = true := rfl

/-- In canonical form no listed address is below the bound. -/
theorem readCells_below (l : List Host.Cell) (lo a : Nat) (hl : cellsFrom lo l = true) (ha : a < lo) :
    readCells l a = unlistedByte := by
  induction l generalizing lo with
  | nil => rfl
  | cons c l ih =>
    obtain ⟨k, b⟩ := c
    simp only [cellsFrom, Bool.and_eq_true, decide_eq_true_eq] at hl
    have hk : k ≠ a := by omega
    simp only [readCells, hk, if_false]
    exact ih (k + 1) hl.2 (by omega)

/-- Two lists in canonical form that read alike are the same list: equal memories are equal data. -/
theorem cells_ext (l₁ l₂ : List Host.Cell) (lo : Nat) (h₁ : cellsFrom lo l₁ = true) (h₂ : cellsFrom lo l₂ = true)
    (h : ∀ a, readCells l₁ a = readCells l₂ a) : l₁ = l₂ := by
  induction l₁ generalizing l₂ lo with
  | nil =>
    cases l₂ with
    | nil => rfl
    | cons c l₂ =>
      obtain ⟨k, b⟩ := c
      simp only [cellsFrom, Bool.and_eq_true, decide_eq_true_eq] at h₂
      have := h k
      simp only [readCells, if_true] at this
      exact absurd this.symm h₂.1.2
  | cons c₁ l₁ ih =>
    obtain ⟨k₁, b₁⟩ := c₁
    simp only [cellsFrom, Bool.and_eq_true, decide_eq_true_eq] at h₁
    cases l₂ with
    | nil =>
      have := h k₁
      simp only [readCells, if_true] at this
      exact absurd this h₁.1.2
    | cons c₂ l₂ =>
      obtain ⟨k₂, b₂⟩ := c₂
      simp only [cellsFrom, Bool.and_eq_true, decide_eq_true_eq] at h₂
      have hk : k₁ = k₂ := by
        rcases Nat.lt_trichotomy k₁ k₂ with hlt | heq | hgt
        · have := h k₁
          have hne : k₂ ≠ k₁ := by omega
          simp only [readCells, if_true, hne, if_false] at this
          rw [readCells_below l₂ (k₂ + 1) k₁ h₂.2 (by omega)] at this
          exact absurd this h₁.1.2
        · exact heq
        · have := h k₂
          have hne : k₁ ≠ k₂ := by omega
          simp only [readCells, if_true, hne, if_false] at this
          rw [readCells_below l₁ (k₁ + 1) k₂ h₁.2 (by omega)] at this
          exact absurd this.symm h₂.1.2
      subst hk
      have hb : b₁ = b₂ := by simpa [readCells] using h k₁
      subst hb
      have htl : l₁ = l₂ := by
        refine ih l₂ (k₁ + 1) h₁.2 h₂.2 (fun a => ?_)
        by_cases ha : k₁ = a
        · subst ha
          rw [readCells_below l₁ (k₁ + 1) k₁ h₁.2 (by omega), readCells_below l₂ (k₁ + 1) k₁ h₂.2 (by omega)]
        · simpa [readCells, ha] using h a
      rw [htl]

/-- Memories in canonical form that hold the same bytes are equal. -/
theorem Memory.ext_of_read (m₁ m₂ : Memory) (h₁ : m₁.wf = true) (h₂ : m₂.wf = true) (h : ∀ a, m₁.read a = m₂.read a) :
    m₁ = m₂ := by
  cases m₁; cases m₂
  exact congrArg Memory.mk (cells_ext _ _ 0 h₁ h₂ h)

/-- A store leaves a byte outside the stored ones alone (20_memory.md R77). -/
theorem State.read_writeLE_other (s : State) (a v : Word) (n q : Nat) (h : ∀ i < n, q ≠ s.byteAddr a i) :
    (s.writeLE a v n).mem.read q = s.mem.read q := by
  induction n with
  | zero => rfl
  | succ n ih =>
    have hq : q ≠ s.byteAddr a n := h n (Nat.lt_succ_self n)
    exact (Memory.read_write_other _ _ _ _ hq).trans (ih (fun i hi => h i (by omega)))

end Sys2Proof.Machine
end

