-- ==== Sys2Proof/Laws/Ops.lean ====
section
/-! SUPPORT. For each shared operation of Machine/, one lemma that says everything it can answer, to be cited instead of
unfolding the operation. -/

namespace Sys2Proof.Machine

open Sys2Proof

theorem State.retire_eq (s : State) : s.retire = .next s.advance := rfl

theorem State.opRegReg_eq (s : State) (op : Word → Word → Word) (rd rs1 rs2 : XReg) :
    s.opRegReg op rd rs1 rs2 = .next (s.writeX rd (op (s.readX rs1) (s.readX rs2))).advance := rfl

theorem State.opRegConst_eq (s : State) (op : Word → Word → Word) (rd rs1 : XReg) (c : Word) :
    s.opRegConst op rd rs1 c = .next (s.writeX rd (op (s.readX rs1) c)).advance := rfl

/-- An instruction of XLEN = 64 runs there and is illegal at XLEN = 32 (30_encoding.md R131). -/
theorem State.onlyRv64_eq (s : State) (i : Instr) (r : Result) :
    s.onlyRv64 i r = match s.xlen with | .rv64 => r | .rv32 => illegal i := by
  unfold State.onlyRv64; cases s.xlen <;> rfl

theorem State.onlyRv64_next {s t : State} {i : Instr} {r : Result} (h : s.onlyRv64 i r = .next t) :
    s.xlen = .rv64 ∧ r = .next t := by
  unfold State.onlyRv64 at h
  split at h
  · exact ⟨‹_›, h⟩
  · cases h

theorem State.onlyRv64_fault {s : State} {i : Instr} {r : Result} {e : Fault} (h : s.onlyRv64 i r = .fault e) :
    (s.xlen = .rv64 ∧ r = .fault e) ∨ (s.xlen = .rv32 ∧ illegal i = .fault e) := by
  unfold State.onlyRv64 at h
  split at h
  · exact .inl ⟨‹_›, h⟩
  · right; refine ⟨?_, h⟩; cases hx : s.xlen <;> simp_all

/-- The three answers of an access: misaligned, outside memory, or what the access does (20_memory.md R75, R72, 60_exceptions.md
R563). -/
theorem State.access_cases (s : State) (k : Access) (a : Word) (n : MemSize) (r : Result) :
    (aligned a n = false ∧ s.access k a n r = .fault (.trap k.misaligned a)) ∨
    (aligned a n = true ∧ s.insideMemory a n.bytes = false ∧ s.access k a n r = .fault (.trap k.accessFault a)) ∨
    (aligned a n = true ∧ s.insideMemory a n.bytes = true ∧ s.access k a n r = r) := by
  unfold State.access takeTrap
  cases aligned a n <;> cases s.insideMemory a n.bytes <;> simp

theorem State.access_next {s t : State} {k : Access} {a : Word} {n : MemSize} {r : Result} (h : s.access k a n r = .next t) :
    aligned a n = true ∧ s.insideMemory a n.bytes = true ∧ r = .next t := by
  rcases s.access_cases k a n r with ⟨_, h'⟩ | ⟨_, _, h'⟩ | ⟨h1, h2, h'⟩
  · rw [h'] at h; cases h
  · rw [h'] at h; cases h
  · exact ⟨h1, h2, h'.symm.trans h⟩

theorem State.loadX_next {s t : State} {n : MemSize} {ext : Word → Word} {rd rs1 : XReg} {imm : Imm12}
    (h : s.loadX n ext rd rs1 imm = .next t) :
    aligned (s.effectiveAddr rs1 imm) n = true ∧ s.insideMemory (s.effectiveAddr rs1 imm) n.bytes = true ∧
    t = (s.writeX rd (ext (s.readMem (s.effectiveAddr rs1 imm) n))).advance := by
  obtain ⟨h1, h2, h3⟩ := State.access_next h
  exact ⟨h1, h2, by cases h3; rfl⟩

theorem State.store_next {s t : State} {n : MemSize} {v : Word} {rs1 : XReg} {imm : Imm12}
    (h : s.store n v rs1 imm = .next t) :
    aligned (s.effectiveAddr rs1 imm) n = true ∧ s.insideMemory (s.effectiveAddr rs1 imm) n.bytes = true ∧
    t = (s.writeMem (s.effectiveAddr rs1 imm) n v).advance := by
  obtain ⟨h1, h2, h3⟩ := State.access_next h
  exact ⟨h1, h2, by cases h3; rfl⟩

theorem State.loadF_next {s t : State} {n : MemSize} {make : Word → BitVec 64} {rd : FReg} {rs1 : XReg} {imm : Imm12}
    (h : s.loadF n make rd rs1 imm = .next t) :
    aligned (s.effectiveAddr rs1 imm) n = true ∧ s.insideMemory (s.effectiveAddr rs1 imm) n.bytes = true ∧
    t = (s.writeF rd (make (s.readMem (s.effectiveAddr rs1 imm) n))).advance := by
  obtain ⟨h1, h2, h3⟩ := State.access_next h
  exact ⟨h1, h2, by cases h3; rfl⟩

/-- A transfer goes to a multiple of 4 or raises (43_control_transfer.md R300). -/
theorem State.jumpTo_cases (s : State) (t : Word) :
    (t.toNat % 4 = 0 ∧ s.jumpTo t = .next (s.setPc t)) ∨
    (t.toNat % 4 ≠ 0 ∧ s.jumpTo t = .fault (.trap .instructionAddressMisaligned t)) := by
  unfold State.jumpTo takeTrap
  by_cases h : t.toNat % 4 = 0 <;> simp [h]

theorem State.branch_cases (s : State) (taken : Bool) (off : Off13) :
    (taken = false ∧ s.branch taken off = .next s.advance) ∨
    (taken = true ∧ (s.pcRelative off).toNat % 4 = 0 ∧ s.branch taken off = .next (s.setPc (s.pcRelative off))) ∨
    (taken = true ∧ (s.pcRelative off).toNat % 4 ≠ 0 ∧
      s.branch taken off = .fault (.trap .instructionAddressMisaligned (s.pcRelative off))) := by
  unfold State.branch
  cases taken
  · left; exact ⟨rfl, rfl⟩
  · right
    rcases s.jumpTo_cases (s.pcRelative off) with ⟨h, h'⟩ | ⟨h, h'⟩
    · left; exact ⟨rfl, h, h'⟩
    · right; exact ⟨rfl, h, h'⟩

theorem State.opShift_cases (s : State) (i : Instr) (op : Word → Nat → Word) (rd rs1 : XReg) (shamt : Shamt6) :
    (shamt.toNat < s.xlen.bits ∧
      s.opShift i op rd rs1 shamt = .next (s.writeX rd (op (s.readX rs1) shamt.toNat)).advance) ∨
    (¬ shamt.toNat < s.xlen.bits ∧ s.opShift i op rd rs1 shamt = illegal i) := by
  unfold State.opShift
  by_cases h : shamt.toNat < s.xlen.bits
  · left; exact ⟨h, if_pos h⟩
  · right; exact ⟨h, if_neg h⟩

theorem State.loadReserved_next {s t : State} {n : MemSize} {rd rs1 : XReg} (h : s.loadReserved n rd rs1 = .next t) :
    aligned (s.readX rs1) n = true ∧ s.insideMemory (s.readX rs1) n.bytes = true ∧
    t = ((s.reserve (s.readX rs1) n).writeX rd (signExtendFrom n (s.readMem (s.readX rs1) n))).advance := by
  obtain ⟨h1, h2, h3⟩ := State.access_next h
  exact ⟨h1, h2, by cases h3; rfl⟩

/-- The three outcomes of a store-conditional that completes (46_atomics.md R373). -/
theorem State.storeConditional_next {s t : State} {n : MemSize} {rd rs1 rs2 : XReg}
    (h : s.storeConditional n rd rs1 rs2 = .next t) :
    aligned (s.readX rs1) n = true ∧ s.insideMemory (s.readX rs1) n.bytes = true ∧
    ((s.scEligible (s.readX rs1) n = true ∧ Config.scSucceeds s.draws = true ∧
        t = ((s.drew.writeMem (s.readX rs1) n (s.readX rs2)).unreserve.writeX rd 0).advance) ∨
     (s.scEligible (s.readX rs1) n = true ∧ Config.scSucceeds s.draws = false ∧
        t = (s.drew.unreserve.writeX rd 1).advance) ∨
     (s.scEligible (s.readX rs1) n = false ∧ t = (s.unreserve.writeX rd 1).advance)) := by
  obtain ⟨h1, h2, h3⟩ := State.access_next h
  refine ⟨h1, h2, ?_⟩
  split at h3
  · rename_i he
    split at h3
    · rename_i hd; left; exact ⟨he, hd, by cases h3; rfl⟩
    · rename_i hd; right; left; exact ⟨he, by simpa using hd, by cases h3; rfl⟩
  · rename_i he; right; right; exact ⟨by simpa using he, by cases h3; rfl⟩

theorem State.amo_next {s t : State} {n : MemSize}
    {op : BitVec (8 * n.bytes) → BitVec (8 * n.bytes) → BitVec (8 * n.bytes)} {rd rs1 rs2 : XReg}
    (h : s.amo n op rd rs1 rs2 = .next t) :
    aligned (s.readX rs1) n = true ∧ s.insideMemory (s.readX rs1) n.bytes = true ∧
    t = ((s.writeMem (s.readX rs1) n (amoResult n op (s.readMem (s.readX rs1) n) (s.readX rs2))).writeX rd
      (signExtendFrom n (s.readMem (s.readX rs1) n))).advance := by
  obtain ⟨h1, h2, h3⟩ := State.access_next h
  exact ⟨h1, h2, by cases h3; rfl⟩

/-- A rounding instruction runs in the effective mode or is illegal (47_fp_single.md R405). -/
theorem State.rounding_cases (s : State) (i : Instr) (rm : RmField) (k : RMode → Result) :
    (∃ m, effectiveMode rm s.frm = some m ∧ s.rounding i rm k = k m) ∨
    (effectiveMode rm s.frm = none ∧ s.rounding i rm k = illegal i) := by
  unfold State.rounding
  cases effectiveMode rm s.frm with
  | none => exact .inr ⟨rfl, rfl⟩
  | some m => exact .inl ⟨m, rfl, rfl⟩

theorem State.finishF_eq (s : State) (F : Fmt) (rd : FReg) (r : Flagged F) :
    s.finishF F rd r = .next ((s.writeFmt F rd r.1).accrue r.2).advance := rfl

theorem State.finishX_eq (s : State) (rd : XReg) (v : Word) (fl : BitVec 5) :
    s.finishX rd v fl = .next ((s.writeX rd v).accrue fl).advance := rfl

theorem State.fpInject_eq (s : State) (F : Fmt) (sign : Bool → Bool → Bool) (rd rs1 rs2 : FReg) :
    s.fpInject F sign rd rs1 rs2 =
      .next (s.writeFmt F rd
        (withSign F (sign (signOf F (s.readFmt F rs1)) (signOf F (s.readFmt F rs2))) (s.readFmt F rs1))).advance := rfl

/-- A CSR instruction writes the CSR unless suppressed and hands over the old value, or is illegal (49_zicsr.md R520). -/
theorem State.csrAccess_cases (s : State) (i : Instr) (a : CsrAddr) (rd : XReg) (writes : Bool) (new : Word → Word) :
    (csrImplemented a = true ∧ s.csrAccess i a rd writes new =
      .next ((if writes then s.csrWrite a (new (s.csrRead a)) else s).writeX rd (s.csrRead a)).advance) ∨
    (csrImplemented a = false ∧ s.csrAccess i a rd writes new = illegal i) := by
  unfold State.csrAccess
  by_cases h : csrImplemented a = true
  · left; exact ⟨h, if_pos h⟩
  · right; exact ⟨by simpa using h, if_neg h⟩

/-- The three answers of fetching and decoding (60_exceptions.md R563). -/
theorem State.fetchDecode_cases (s : State) (run : Instr → Result) :
    (s.insideMemory s.getPc 4 = false ∧ s.fetchDecode run = .fault (.trap .instructionAccessFault s.getPc)) ∨
    (s.insideMemory s.getPc 4 = true ∧ (∃ r, decode s.xlen s.fetchWord = .error r) ∧
      s.fetchDecode run = illegalWord s.fetchWord) ∨
    (s.insideMemory s.getPc 4 = true ∧ ∃ i, decode s.xlen s.fetchWord = .ok i ∧ s.fetchDecode run = run i) := by
  unfold State.fetchDecode takeTrap
  cases h : s.insideMemory s.getPc 4
  · simp
  · cases hd : decode s.xlen s.fetchWord with
    | error r => simp
    | ok i => simp

theorem State.afterFetch_eq (s : State) : s.afterFetch = { s with draws := s.afterFetch.draws } := by
  unfold State.afterFetch; split <;> rfl

end Sys2Proof.Machine
end

