-- ==== Sys2Proof/Laws/PerInstr.lean ====
section
/-! SUPPORT. A statement made per instruction: the word of every instruction has 11 in bits 1:0, so no instruction lies in the
compressed space (30_encoding.md R120). -/

namespace Sys2Proof.Laws

open Sys2Proof

theorem low_append {m n : Nat} (a : BitVec m) (b : BitVec n) (h : 2 ≤ n) : (a ++ b).extractLsb' 0 2 = b.extractLsb' 0 2 := by
  apply BitVec.eq_of_getLsbD_eq; intro i hi
  have : i < n := by omega
  simp [BitVec.getLsbD_append, this]

/-- Bits 1:0 of the word are 11. -/
def LowBits.Statement (i : Instr) : Prop := (encode i).extractLsb' 0 2 = 3#2

theorem low_encR (a : BitVec 7) (b c : BitVec 5) (d : BitVec 3) (e : BitVec 5) (op : BitVec 7) :
    (encR a b c d e op).extractLsb' 0 2 = op.extractLsb' 0 2 := low_append _ op (by decide)
theorem low_encI (a : BitVec 12) (c : BitVec 5) (d : BitVec 3) (e : BitVec 5) (op : BitVec 7) :
    (encI a c d e op).extractLsb' 0 2 = op.extractLsb' 0 2 := low_append _ op (by decide)
theorem low_encShamt6 (a b : BitVec 6) (c : BitVec 5) (d : BitVec 3) (e : BitVec 5) (op : BitVec 7) :
    (encShamt6 a b c d e op).extractLsb' 0 2 = op.extractLsb' 0 2 := low_append _ op (by decide)
theorem low_encS (a : BitVec 12) (b c : BitVec 5) (d : BitVec 3) (op : BitVec 7) :
    (encS a b c d op).extractLsb' 0 2 = op.extractLsb' 0 2 := low_append _ op (by decide)
theorem low_encB (a : BitVec 13) (b c : BitVec 5) (d : BitVec 3) (op : BitVec 7) :
    (encB a b c d op).extractLsb' 0 2 = op.extractLsb' 0 2 := low_append _ op (by decide)
theorem low_encU (a : BitVec 20) (e : BitVec 5) (op : BitVec 7) :
    (encU a e op).extractLsb' 0 2 = op.extractLsb' 0 2 := low_append _ op (by decide)
theorem low_encJ (a : BitVec 21) (e : BitVec 5) (op : BitVec 7) :
    (encJ a e op).extractLsb' 0 2 = op.extractLsb' 0 2 := low_append _ op (by decide)
theorem low_encR4 (a : BitVec 5) (f : BitVec 2) (b c : BitVec 5) (d : BitVec 3) (e : BitVec 5) (op : BitVec 7) :
    (encR4 a f b c d e op).extractLsb' 0 2 = op.extractLsb' 0 2 := low_append _ op (by decide)
theorem low_encAmo (a : BitVec 5) (q r : Bool) (b c : BitVec 5) (d : BitVec 3) (e : BitVec 5) :
    (encAmo a q r b c d e).extractLsb' 0 2 = (0x2f#7).extractLsb' 0 2 := low_append _ 0x2f#7 (by decide)

theorem LowBits.lui (rd : XReg) (imm : Imm20) : LowBits.Statement (.lui rd imm) := (low_encU _ _ _).trans (by decide)
theorem LowBits.auipc (rd : XReg) (imm : Imm20) : LowBits.Statement (.auipc rd imm) := (low_encU _ _ _).trans (by decide)
theorem LowBits.jal (rd : XReg) (off : Off21) : LowBits.Statement (.jal rd off) := (low_encJ _ _ _).trans (by decide)
theorem LowBits.jalr (rd : XReg) (rs1 : XReg) (imm : Imm12) : LowBits.Statement (.jalr rd rs1 imm) := (low_encI _ _ _ _ _).trans (by decide)
theorem LowBits.beq (rs1 : XReg) (rs2 : XReg) (off : Off13) : LowBits.Statement (.beq rs1 rs2 off) := (low_encB _ _ _ _ _).trans (by decide)
theorem LowBits.bne (rs1 : XReg) (rs2 : XReg) (off : Off13) : LowBits.Statement (.bne rs1 rs2 off) := (low_encB _ _ _ _ _).trans (by decide)
theorem LowBits.blt (rs1 : XReg) (rs2 : XReg) (off : Off13) : LowBits.Statement (.blt rs1 rs2 off) := (low_encB _ _ _ _ _).trans (by decide)
theorem LowBits.bge (rs1 : XReg) (rs2 : XReg) (off : Off13) : LowBits.Statement (.bge rs1 rs2 off) := (low_encB _ _ _ _ _).trans (by decide)
theorem LowBits.bltu (rs1 : XReg) (rs2 : XReg) (off : Off13) : LowBits.Statement (.bltu rs1 rs2 off) := (low_encB _ _ _ _ _).trans (by decide)
theorem LowBits.bgeu (rs1 : XReg) (rs2 : XReg) (off : Off13) : LowBits.Statement (.bgeu rs1 rs2 off) := (low_encB _ _ _ _ _).trans (by decide)
theorem LowBits.lb (rd : XReg) (rs1 : XReg) (imm : Imm12) : LowBits.Statement (.lb rd rs1 imm) := (low_encI _ _ _ _ _).trans (by decide)
theorem LowBits.lh (rd : XReg) (rs1 : XReg) (imm : Imm12) : LowBits.Statement (.lh rd rs1 imm) := (low_encI _ _ _ _ _).trans (by decide)
theorem LowBits.lw (rd : XReg) (rs1 : XReg) (imm : Imm12) : LowBits.Statement (.lw rd rs1 imm) := (low_encI _ _ _ _ _).trans (by decide)
theorem LowBits.lbu (rd : XReg) (rs1 : XReg) (imm : Imm12) : LowBits.Statement (.lbu rd rs1 imm) := (low_encI _ _ _ _ _).trans (by decide)
theorem LowBits.lhu (rd : XReg) (rs1 : XReg) (imm : Imm12) : LowBits.Statement (.lhu rd rs1 imm) := (low_encI _ _ _ _ _).trans (by decide)
theorem LowBits.lwu (rd : XReg) (rs1 : XReg) (imm : Imm12) : LowBits.Statement (.lwu rd rs1 imm) := (low_encI _ _ _ _ _).trans (by decide)
theorem LowBits.ld (rd : XReg) (rs1 : XReg) (imm : Imm12) : LowBits.Statement (.ld rd rs1 imm) := (low_encI _ _ _ _ _).trans (by decide)
theorem LowBits.sb (rs1 : XReg) (rs2 : XReg) (imm : Imm12) : LowBits.Statement (.sb rs1 rs2 imm) := (low_encS _ _ _ _ _).trans (by decide)
theorem LowBits.sh (rs1 : XReg) (rs2 : XReg) (imm : Imm12) : LowBits.Statement (.sh rs1 rs2 imm) := (low_encS _ _ _ _ _).trans (by decide)
theorem LowBits.sw (rs1 : XReg) (rs2 : XReg) (imm : Imm12) : LowBits.Statement (.sw rs1 rs2 imm) := (low_encS _ _ _ _ _).trans (by decide)
theorem LowBits.sd (rs1 : XReg) (rs2 : XReg) (imm : Imm12) : LowBits.Statement (.sd rs1 rs2 imm) := (low_encS _ _ _ _ _).trans (by decide)
theorem LowBits.addi (rd : XReg) (rs1 : XReg) (imm : Imm12) : LowBits.Statement (.addi rd rs1 imm) := (low_encI _ _ _ _ _).trans (by decide)
theorem LowBits.slti (rd : XReg) (rs1 : XReg) (imm : Imm12) : LowBits.Statement (.slti rd rs1 imm) := (low_encI _ _ _ _ _).trans (by decide)
theorem LowBits.sltiu (rd : XReg) (rs1 : XReg) (imm : Imm12) : LowBits.Statement (.sltiu rd rs1 imm) := (low_encI _ _ _ _ _).trans (by decide)
theorem LowBits.xori (rd : XReg) (rs1 : XReg) (imm : Imm12) : LowBits.Statement (.xori rd rs1 imm) := (low_encI _ _ _ _ _).trans (by decide)
theorem LowBits.ori (rd : XReg) (rs1 : XReg) (imm : Imm12) : LowBits.Statement (.ori rd rs1 imm) := (low_encI _ _ _ _ _).trans (by decide)
theorem LowBits.andi (rd : XReg) (rs1 : XReg) (imm : Imm12) : LowBits.Statement (.andi rd rs1 imm) := (low_encI _ _ _ _ _).trans (by decide)
theorem LowBits.slli (rd : XReg) (rs1 : XReg) (shamt : Shamt6) : LowBits.Statement (.slli rd rs1 shamt) := (low_encShamt6 _ _ _ _ _ _).trans (by decide)
theorem LowBits.srli (rd : XReg) (rs1 : XReg) (shamt : Shamt6) : LowBits.Statement (.srli rd rs1 shamt) := (low_encShamt6 _ _ _ _ _ _).trans (by decide)
theorem LowBits.srai (rd : XReg) (rs1 : XReg) (shamt : Shamt6) : LowBits.Statement (.srai rd rs1 shamt) := (low_encShamt6 _ _ _ _ _ _).trans (by decide)
theorem LowBits.add (rd : XReg) (rs1 : XReg) (rs2 : XReg) : LowBits.Statement (.add rd rs1 rs2) := (low_encR _ _ _ _ _ _).trans (by decide)
theorem LowBits.sub (rd : XReg) (rs1 : XReg) (rs2 : XReg) : LowBits.Statement (.sub rd rs1 rs2) := (low_encR _ _ _ _ _ _).trans (by decide)
theorem LowBits.sll (rd : XReg) (rs1 : XReg) (rs2 : XReg) : LowBits.Statement (.sll rd rs1 rs2) := (low_encR _ _ _ _ _ _).trans (by decide)
theorem LowBits.slt (rd : XReg) (rs1 : XReg) (rs2 : XReg) : LowBits.Statement (.slt rd rs1 rs2) := (low_encR _ _ _ _ _ _).trans (by decide)
theorem LowBits.sltu (rd : XReg) (rs1 : XReg) (rs2 : XReg) : LowBits.Statement (.sltu rd rs1 rs2) := (low_encR _ _ _ _ _ _).trans (by decide)
theorem LowBits.xor (rd : XReg) (rs1 : XReg) (rs2 : XReg) : LowBits.Statement (.xor rd rs1 rs2) := (low_encR _ _ _ _ _ _).trans (by decide)
theorem LowBits.srl (rd : XReg) (rs1 : XReg) (rs2 : XReg) : LowBits.Statement (.srl rd rs1 rs2) := (low_encR _ _ _ _ _ _).trans (by decide)
theorem LowBits.sra (rd : XReg) (rs1 : XReg) (rs2 : XReg) : LowBits.Statement (.sra rd rs1 rs2) := (low_encR _ _ _ _ _ _).trans (by decide)
theorem LowBits.or (rd : XReg) (rs1 : XReg) (rs2 : XReg) : LowBits.Statement (.or rd rs1 rs2) := (low_encR _ _ _ _ _ _).trans (by decide)
theorem LowBits.and (rd : XReg) (rs1 : XReg) (rs2 : XReg) : LowBits.Statement (.and rd rs1 rs2) := (low_encR _ _ _ _ _ _).trans (by decide)
theorem LowBits.fence (fm : Nibble) (pred : Nibble) (succ : Nibble) (rs1 : XReg) (rd : XReg) : LowBits.Statement (.fence fm pred succ rs1 rd) := (low_encI _ _ _ _ _).trans (by decide)
theorem LowBits.fenceI (imm : Imm12) (rs1 : XReg) (rd : XReg) : LowBits.Statement (.fenceI imm rs1 rd) := (low_encI _ _ _ _ _).trans (by decide)
theorem LowBits.ecall : LowBits.Statement (.ecall) := by unfold LowBits.Statement; decide
theorem LowBits.ebreak : LowBits.Statement (.ebreak) := by unfold LowBits.Statement; decide
theorem LowBits.addiw (rd : XReg) (rs1 : XReg) (imm : Imm12) : LowBits.Statement (.addiw rd rs1 imm) := (low_encI _ _ _ _ _).trans (by decide)
theorem LowBits.slliw (rd : XReg) (rs1 : XReg) (shamt : Shamt5) : LowBits.Statement (.slliw rd rs1 shamt) := (low_encR _ _ _ _ _ _).trans (by decide)
theorem LowBits.srliw (rd : XReg) (rs1 : XReg) (shamt : Shamt5) : LowBits.Statement (.srliw rd rs1 shamt) := (low_encR _ _ _ _ _ _).trans (by decide)
theorem LowBits.sraiw (rd : XReg) (rs1 : XReg) (shamt : Shamt5) : LowBits.Statement (.sraiw rd rs1 shamt) := (low_encR _ _ _ _ _ _).trans (by decide)
theorem LowBits.addw (rd : XReg) (rs1 : XReg) (rs2 : XReg) : LowBits.Statement (.addw rd rs1 rs2) := (low_encR _ _ _ _ _ _).trans (by decide)
theorem LowBits.subw (rd : XReg) (rs1 : XReg) (rs2 : XReg) : LowBits.Statement (.subw rd rs1 rs2) := (low_encR _ _ _ _ _ _).trans (by decide)
theorem LowBits.sllw (rd : XReg) (rs1 : XReg) (rs2 : XReg) : LowBits.Statement (.sllw rd rs1 rs2) := (low_encR _ _ _ _ _ _).trans (by decide)
theorem LowBits.srlw (rd : XReg) (rs1 : XReg) (rs2 : XReg) : LowBits.Statement (.srlw rd rs1 rs2) := (low_encR _ _ _ _ _ _).trans (by decide)
theorem LowBits.sraw (rd : XReg) (rs1 : XReg) (rs2 : XReg) : LowBits.Statement (.sraw rd rs1 rs2) := (low_encR _ _ _ _ _ _).trans (by decide)
theorem LowBits.mul (rd : XReg) (rs1 : XReg) (rs2 : XReg) : LowBits.Statement (.mul rd rs1 rs2) := (low_encR _ _ _ _ _ _).trans (by decide)
theorem LowBits.mulh (rd : XReg) (rs1 : XReg) (rs2 : XReg) : LowBits.Statement (.mulh rd rs1 rs2) := (low_encR _ _ _ _ _ _).trans (by decide)
theorem LowBits.mulhsu (rd : XReg) (rs1 : XReg) (rs2 : XReg) : LowBits.Statement (.mulhsu rd rs1 rs2) := (low_encR _ _ _ _ _ _).trans (by decide)
theorem LowBits.mulhu (rd : XReg) (rs1 : XReg) (rs2 : XReg) : LowBits.Statement (.mulhu rd rs1 rs2) := (low_encR _ _ _ _ _ _).trans (by decide)
theorem LowBits.div (rd : XReg) (rs1 : XReg) (rs2 : XReg) : LowBits.Statement (.div rd rs1 rs2) := (low_encR _ _ _ _ _ _).trans (by decide)
theorem LowBits.divu (rd : XReg) (rs1 : XReg) (rs2 : XReg) : LowBits.Statement (.divu rd rs1 rs2) := (low_encR _ _ _ _ _ _).trans (by decide)
theorem LowBits.rem (rd : XReg) (rs1 : XReg) (rs2 : XReg) : LowBits.Statement (.rem rd rs1 rs2) := (low_encR _ _ _ _ _ _).trans (by decide)
theorem LowBits.remu (rd : XReg) (rs1 : XReg) (rs2 : XReg) : LowBits.Statement (.remu rd rs1 rs2) := (low_encR _ _ _ _ _ _).trans (by decide)
theorem LowBits.mulw (rd : XReg) (rs1 : XReg) (rs2 : XReg) : LowBits.Statement (.mulw rd rs1 rs2) := (low_encR _ _ _ _ _ _).trans (by decide)
theorem LowBits.divw (rd : XReg) (rs1 : XReg) (rs2 : XReg) : LowBits.Statement (.divw rd rs1 rs2) := (low_encR _ _ _ _ _ _).trans (by decide)
theorem LowBits.divuw (rd : XReg) (rs1 : XReg) (rs2 : XReg) : LowBits.Statement (.divuw rd rs1 rs2) := (low_encR _ _ _ _ _ _).trans (by decide)
theorem LowBits.remw (rd : XReg) (rs1 : XReg) (rs2 : XReg) : LowBits.Statement (.remw rd rs1 rs2) := (low_encR _ _ _ _ _ _).trans (by decide)
theorem LowBits.remuw (rd : XReg) (rs1 : XReg) (rs2 : XReg) : LowBits.Statement (.remuw rd rs1 rs2) := (low_encR _ _ _ _ _ _).trans (by decide)
theorem LowBits.lrW (rd : XReg) (rs1 : XReg) (aq : Bool) (rl : Bool) : LowBits.Statement (.lrW rd rs1 aq rl) := (low_encAmo _ _ _ _ _ _ _).trans (by decide)
theorem LowBits.lrD (rd : XReg) (rs1 : XReg) (aq : Bool) (rl : Bool) : LowBits.Statement (.lrD rd rs1 aq rl) := (low_encAmo _ _ _ _ _ _ _).trans (by decide)
theorem LowBits.scW (rd : XReg) (rs1 : XReg) (rs2 : XReg) (aq : Bool) (rl : Bool) : LowBits.Statement (.scW rd rs1 rs2 aq rl) := (low_encAmo _ _ _ _ _ _ _).trans (by decide)
theorem LowBits.scD (rd : XReg) (rs1 : XReg) (rs2 : XReg) (aq : Bool) (rl : Bool) : LowBits.Statement (.scD rd rs1 rs2 aq rl) := (low_encAmo _ _ _ _ _ _ _).trans (by decide)
theorem LowBits.amoswapW (rd : XReg) (rs1 : XReg) (rs2 : XReg) (aq : Bool) (rl : Bool) : LowBits.Statement (.amoswapW rd rs1 rs2 aq rl) := (low_encAmo _ _ _ _ _ _ _).trans (by decide)
theorem LowBits.amoswapD (rd : XReg) (rs1 : XReg) (rs2 : XReg) (aq : Bool) (rl : Bool) : LowBits.Statement (.amoswapD rd rs1 rs2 aq rl) := (low_encAmo _ _ _ _ _ _ _).trans (by decide)
theorem LowBits.amoaddW (rd : XReg) (rs1 : XReg) (rs2 : XReg) (aq : Bool) (rl : Bool) : LowBits.Statement (.amoaddW rd rs1 rs2 aq rl) := (low_encAmo _ _ _ _ _ _ _).trans (by decide)
theorem LowBits.amoaddD (rd : XReg) (rs1 : XReg) (rs2 : XReg) (aq : Bool) (rl : Bool) : LowBits.Statement (.amoaddD rd rs1 rs2 aq rl) := (low_encAmo _ _ _ _ _ _ _).trans (by decide)
theorem LowBits.amoxorW (rd : XReg) (rs1 : XReg) (rs2 : XReg) (aq : Bool) (rl : Bool) : LowBits.Statement (.amoxorW rd rs1 rs2 aq rl) := (low_encAmo _ _ _ _ _ _ _).trans (by decide)
theorem LowBits.amoxorD (rd : XReg) (rs1 : XReg) (rs2 : XReg) (aq : Bool) (rl : Bool) : LowBits.Statement (.amoxorD rd rs1 rs2 aq rl) := (low_encAmo _ _ _ _ _ _ _).trans (by decide)
theorem LowBits.amoandW (rd : XReg) (rs1 : XReg) (rs2 : XReg) (aq : Bool) (rl : Bool) : LowBits.Statement (.amoandW rd rs1 rs2 aq rl) := (low_encAmo _ _ _ _ _ _ _).trans (by decide)
theorem LowBits.amoandD (rd : XReg) (rs1 : XReg) (rs2 : XReg) (aq : Bool) (rl : Bool) : LowBits.Statement (.amoandD rd rs1 rs2 aq rl) := (low_encAmo _ _ _ _ _ _ _).trans (by decide)
theorem LowBits.amoorW (rd : XReg) (rs1 : XReg) (rs2 : XReg) (aq : Bool) (rl : Bool) : LowBits.Statement (.amoorW rd rs1 rs2 aq rl) := (low_encAmo _ _ _ _ _ _ _).trans (by decide)
theorem LowBits.amoorD (rd : XReg) (rs1 : XReg) (rs2 : XReg) (aq : Bool) (rl : Bool) : LowBits.Statement (.amoorD rd rs1 rs2 aq rl) := (low_encAmo _ _ _ _ _ _ _).trans (by decide)
theorem LowBits.amominW (rd : XReg) (rs1 : XReg) (rs2 : XReg) (aq : Bool) (rl : Bool) : LowBits.Statement (.amominW rd rs1 rs2 aq rl) := (low_encAmo _ _ _ _ _ _ _).trans (by decide)
theorem LowBits.amominD (rd : XReg) (rs1 : XReg) (rs2 : XReg) (aq : Bool) (rl : Bool) : LowBits.Statement (.amominD rd rs1 rs2 aq rl) := (low_encAmo _ _ _ _ _ _ _).trans (by decide)
theorem LowBits.amomaxW (rd : XReg) (rs1 : XReg) (rs2 : XReg) (aq : Bool) (rl : Bool) : LowBits.Statement (.amomaxW rd rs1 rs2 aq rl) := (low_encAmo _ _ _ _ _ _ _).trans (by decide)
theorem LowBits.amomaxD (rd : XReg) (rs1 : XReg) (rs2 : XReg) (aq : Bool) (rl : Bool) : LowBits.Statement (.amomaxD rd rs1 rs2 aq rl) := (low_encAmo _ _ _ _ _ _ _).trans (by decide)
theorem LowBits.amominuW (rd : XReg) (rs1 : XReg) (rs2 : XReg) (aq : Bool) (rl : Bool) : LowBits.Statement (.amominuW rd rs1 rs2 aq rl) := (low_encAmo _ _ _ _ _ _ _).trans (by decide)
theorem LowBits.amominuD (rd : XReg) (rs1 : XReg) (rs2 : XReg) (aq : Bool) (rl : Bool) : LowBits.Statement (.amominuD rd rs1 rs2 aq rl) := (low_encAmo _ _ _ _ _ _ _).trans (by decide)
theorem LowBits.amomaxuW (rd : XReg) (rs1 : XReg) (rs2 : XReg) (aq : Bool) (rl : Bool) : LowBits.Statement (.amomaxuW rd rs1 rs2 aq rl) := (low_encAmo _ _ _ _ _ _ _).trans (by decide)
theorem LowBits.amomaxuD (rd : XReg) (rs1 : XReg) (rs2 : XReg) (aq : Bool) (rl : Bool) : LowBits.Statement (.amomaxuD rd rs1 rs2 aq rl) := (low_encAmo _ _ _ _ _ _ _).trans (by decide)
theorem LowBits.flw (rd : FReg) (rs1 : XReg) (imm : Imm12) : LowBits.Statement (.flw rd rs1 imm) := (low_encI _ _ _ _ _).trans (by decide)
theorem LowBits.fsw (rs1 : XReg) (rs2 : FReg) (imm : Imm12) : LowBits.Statement (.fsw rs1 rs2 imm) := (low_encS _ _ _ _ _).trans (by decide)
theorem LowBits.fmaddS (rd : FReg) (rs1 : FReg) (rs2 : FReg) (rs3 : FReg) (rm : RmField) : LowBits.Statement (.fmaddS rd rs1 rs2 rs3 rm) := (low_encR4 _ _ _ _ _ _ _).trans (by decide)
theorem LowBits.fmsubS (rd : FReg) (rs1 : FReg) (rs2 : FReg) (rs3 : FReg) (rm : RmField) : LowBits.Statement (.fmsubS rd rs1 rs2 rs3 rm) := (low_encR4 _ _ _ _ _ _ _).trans (by decide)
theorem LowBits.fnmsubS (rd : FReg) (rs1 : FReg) (rs2 : FReg) (rs3 : FReg) (rm : RmField) : LowBits.Statement (.fnmsubS rd rs1 rs2 rs3 rm) := (low_encR4 _ _ _ _ _ _ _).trans (by decide)
theorem LowBits.fnmaddS (rd : FReg) (rs1 : FReg) (rs2 : FReg) (rs3 : FReg) (rm : RmField) : LowBits.Statement (.fnmaddS rd rs1 rs2 rs3 rm) := (low_encR4 _ _ _ _ _ _ _).trans (by decide)
theorem LowBits.faddS (rd : FReg) (rs1 : FReg) (rs2 : FReg) (rm : RmField) : LowBits.Statement (.faddS rd rs1 rs2 rm) := (low_encR _ _ _ _ _ _).trans (by decide)
theorem LowBits.fsubS (rd : FReg) (rs1 : FReg) (rs2 : FReg) (rm : RmField) : LowBits.Statement (.fsubS rd rs1 rs2 rm) := (low_encR _ _ _ _ _ _).trans (by decide)
theorem LowBits.fmulS (rd : FReg) (rs1 : FReg) (rs2 : FReg) (rm : RmField) : LowBits.Statement (.fmulS rd rs1 rs2 rm) := (low_encR _ _ _ _ _ _).trans (by decide)
theorem LowBits.fdivS (rd : FReg) (rs1 : FReg) (rs2 : FReg) (rm : RmField) : LowBits.Statement (.fdivS rd rs1 rs2 rm) := (low_encR _ _ _ _ _ _).trans (by decide)
theorem LowBits.fsqrtS (rd : FReg) (rs1 : FReg) (rm : RmField) : LowBits.Statement (.fsqrtS rd rs1 rm) := (low_encR _ _ _ _ _ _).trans (by decide)
theorem LowBits.fsgnjS (rd : FReg) (rs1 : FReg) (rs2 : FReg) : LowBits.Statement (.fsgnjS rd rs1 rs2) := (low_encR _ _ _ _ _ _).trans (by decide)
theorem LowBits.fsgnjnS (rd : FReg) (rs1 : FReg) (rs2 : FReg) : LowBits.Statement (.fsgnjnS rd rs1 rs2) := (low_encR _ _ _ _ _ _).trans (by decide)
theorem LowBits.fsgnjxS (rd : FReg) (rs1 : FReg) (rs2 : FReg) : LowBits.Statement (.fsgnjxS rd rs1 rs2) := (low_encR _ _ _ _ _ _).trans (by decide)
theorem LowBits.fminS (rd : FReg) (rs1 : FReg) (rs2 : FReg) : LowBits.Statement (.fminS rd rs1 rs2) := (low_encR _ _ _ _ _ _).trans (by decide)
theorem LowBits.fmaxS (rd : FReg) (rs1 : FReg) (rs2 : FReg) : LowBits.Statement (.fmaxS rd rs1 rs2) := (low_encR _ _ _ _ _ _).trans (by decide)
theorem LowBits.fcvtWS (rd : XReg) (rs1 : FReg) (rm : RmField) : LowBits.Statement (.fcvtWS rd rs1 rm) := (low_encR _ _ _ _ _ _).trans (by decide)
theorem LowBits.fcvtWuS (rd : XReg) (rs1 : FReg) (rm : RmField) : LowBits.Statement (.fcvtWuS rd rs1 rm) := (low_encR _ _ _ _ _ _).trans (by decide)
theorem LowBits.fmvXW (rd : XReg) (rs1 : FReg) : LowBits.Statement (.fmvXW rd rs1) := (low_encR _ _ _ _ _ _).trans (by decide)
theorem LowBits.feqS (rd : XReg) (rs1 : FReg) (rs2 : FReg) : LowBits.Statement (.feqS rd rs1 rs2) := (low_encR _ _ _ _ _ _).trans (by decide)
theorem LowBits.fltS (rd : XReg) (rs1 : FReg) (rs2 : FReg) : LowBits.Statement (.fltS rd rs1 rs2) := (low_encR _ _ _ _ _ _).trans (by decide)
theorem LowBits.fleS (rd : XReg) (rs1 : FReg) (rs2 : FReg) : LowBits.Statement (.fleS rd rs1 rs2) := (low_encR _ _ _ _ _ _).trans (by decide)
theorem LowBits.fclassS (rd : XReg) (rs1 : FReg) : LowBits.Statement (.fclassS rd rs1) := (low_encR _ _ _ _ _ _).trans (by decide)
theorem LowBits.fcvtSW (rd : FReg) (rs1 : XReg) (rm : RmField) : LowBits.Statement (.fcvtSW rd rs1 rm) := (low_encR _ _ _ _ _ _).trans (by decide)
theorem LowBits.fcvtSWu (rd : FReg) (rs1 : XReg) (rm : RmField) : LowBits.Statement (.fcvtSWu rd rs1 rm) := (low_encR _ _ _ _ _ _).trans (by decide)
theorem LowBits.fmvWX (rd : FReg) (rs1 : XReg) : LowBits.Statement (.fmvWX rd rs1) := (low_encR _ _ _ _ _ _).trans (by decide)
theorem LowBits.fcvtLS (rd : XReg) (rs1 : FReg) (rm : RmField) : LowBits.Statement (.fcvtLS rd rs1 rm) := (low_encR _ _ _ _ _ _).trans (by decide)
theorem LowBits.fcvtLuS (rd : XReg) (rs1 : FReg) (rm : RmField) : LowBits.Statement (.fcvtLuS rd rs1 rm) := (low_encR _ _ _ _ _ _).trans (by decide)
theorem LowBits.fcvtSL (rd : FReg) (rs1 : XReg) (rm : RmField) : LowBits.Statement (.fcvtSL rd rs1 rm) := (low_encR _ _ _ _ _ _).trans (by decide)
theorem LowBits.fcvtSLu (rd : FReg) (rs1 : XReg) (rm : RmField) : LowBits.Statement (.fcvtSLu rd rs1 rm) := (low_encR _ _ _ _ _ _).trans (by decide)
theorem LowBits.fld (rd : FReg) (rs1 : XReg) (imm : Imm12) : LowBits.Statement (.fld rd rs1 imm) := (low_encI _ _ _ _ _).trans (by decide)
theorem LowBits.fsd (rs1 : XReg) (rs2 : FReg) (imm : Imm12) : LowBits.Statement (.fsd rs1 rs2 imm) := (low_encS _ _ _ _ _).trans (by decide)
theorem LowBits.fmaddD (rd : FReg) (rs1 : FReg) (rs2 : FReg) (rs3 : FReg) (rm : RmField) : LowBits.Statement (.fmaddD rd rs1 rs2 rs3 rm) := (low_encR4 _ _ _ _ _ _ _).trans (by decide)
theorem LowBits.fmsubD (rd : FReg) (rs1 : FReg) (rs2 : FReg) (rs3 : FReg) (rm : RmField) : LowBits.Statement (.fmsubD rd rs1 rs2 rs3 rm) := (low_encR4 _ _ _ _ _ _ _).trans (by decide)
theorem LowBits.fnmsubD (rd : FReg) (rs1 : FReg) (rs2 : FReg) (rs3 : FReg) (rm : RmField) : LowBits.Statement (.fnmsubD rd rs1 rs2 rs3 rm) := (low_encR4 _ _ _ _ _ _ _).trans (by decide)
theorem LowBits.fnmaddD (rd : FReg) (rs1 : FReg) (rs2 : FReg) (rs3 : FReg) (rm : RmField) : LowBits.Statement (.fnmaddD rd rs1 rs2 rs3 rm) := (low_encR4 _ _ _ _ _ _ _).trans (by decide)
theorem LowBits.faddD (rd : FReg) (rs1 : FReg) (rs2 : FReg) (rm : RmField) : LowBits.Statement (.faddD rd rs1 rs2 rm) := (low_encR _ _ _ _ _ _).trans (by decide)
theorem LowBits.fsubD (rd : FReg) (rs1 : FReg) (rs2 : FReg) (rm : RmField) : LowBits.Statement (.fsubD rd rs1 rs2 rm) := (low_encR _ _ _ _ _ _).trans (by decide)
theorem LowBits.fmulD (rd : FReg) (rs1 : FReg) (rs2 : FReg) (rm : RmField) : LowBits.Statement (.fmulD rd rs1 rs2 rm) := (low_encR _ _ _ _ _ _).trans (by decide)
theorem LowBits.fdivD (rd : FReg) (rs1 : FReg) (rs2 : FReg) (rm : RmField) : LowBits.Statement (.fdivD rd rs1 rs2 rm) := (low_encR _ _ _ _ _ _).trans (by decide)
theorem LowBits.fsqrtD (rd : FReg) (rs1 : FReg) (rm : RmField) : LowBits.Statement (.fsqrtD rd rs1 rm) := (low_encR _ _ _ _ _ _).trans (by decide)
theorem LowBits.fsgnjD (rd : FReg) (rs1 : FReg) (rs2 : FReg) : LowBits.Statement (.fsgnjD rd rs1 rs2) := (low_encR _ _ _ _ _ _).trans (by decide)
theorem LowBits.fsgnjnD (rd : FReg) (rs1 : FReg) (rs2 : FReg) : LowBits.Statement (.fsgnjnD rd rs1 rs2) := (low_encR _ _ _ _ _ _).trans (by decide)
theorem LowBits.fsgnjxD (rd : FReg) (rs1 : FReg) (rs2 : FReg) : LowBits.Statement (.fsgnjxD rd rs1 rs2) := (low_encR _ _ _ _ _ _).trans (by decide)
theorem LowBits.fminD (rd : FReg) (rs1 : FReg) (rs2 : FReg) : LowBits.Statement (.fminD rd rs1 rs2) := (low_encR _ _ _ _ _ _).trans (by decide)
theorem LowBits.fmaxD (rd : FReg) (rs1 : FReg) (rs2 : FReg) : LowBits.Statement (.fmaxD rd rs1 rs2) := (low_encR _ _ _ _ _ _).trans (by decide)
theorem LowBits.fcvtSD (rd : FReg) (rs1 : FReg) (rm : RmField) : LowBits.Statement (.fcvtSD rd rs1 rm) := (low_encR _ _ _ _ _ _).trans (by decide)
theorem LowBits.fcvtDS (rd : FReg) (rs1 : FReg) (rm : RmField) : LowBits.Statement (.fcvtDS rd rs1 rm) := (low_encR _ _ _ _ _ _).trans (by decide)
theorem LowBits.feqD (rd : XReg) (rs1 : FReg) (rs2 : FReg) : LowBits.Statement (.feqD rd rs1 rs2) := (low_encR _ _ _ _ _ _).trans (by decide)
theorem LowBits.fltD (rd : XReg) (rs1 : FReg) (rs2 : FReg) : LowBits.Statement (.fltD rd rs1 rs2) := (low_encR _ _ _ _ _ _).trans (by decide)
theorem LowBits.fleD (rd : XReg) (rs1 : FReg) (rs2 : FReg) : LowBits.Statement (.fleD rd rs1 rs2) := (low_encR _ _ _ _ _ _).trans (by decide)
theorem LowBits.fclassD (rd : XReg) (rs1 : FReg) : LowBits.Statement (.fclassD rd rs1) := (low_encR _ _ _ _ _ _).trans (by decide)
theorem LowBits.fcvtWD (rd : XReg) (rs1 : FReg) (rm : RmField) : LowBits.Statement (.fcvtWD rd rs1 rm) := (low_encR _ _ _ _ _ _).trans (by decide)
theorem LowBits.fcvtWuD (rd : XReg) (rs1 : FReg) (rm : RmField) : LowBits.Statement (.fcvtWuD rd rs1 rm) := (low_encR _ _ _ _ _ _).trans (by decide)
theorem LowBits.fcvtDW (rd : FReg) (rs1 : XReg) (rm : RmField) : LowBits.Statement (.fcvtDW rd rs1 rm) := (low_encR _ _ _ _ _ _).trans (by decide)
theorem LowBits.fcvtDWu (rd : FReg) (rs1 : XReg) (rm : RmField) : LowBits.Statement (.fcvtDWu rd rs1 rm) := (low_encR _ _ _ _ _ _).trans (by decide)
theorem LowBits.fcvtLD (rd : XReg) (rs1 : FReg) (rm : RmField) : LowBits.Statement (.fcvtLD rd rs1 rm) := (low_encR _ _ _ _ _ _).trans (by decide)
theorem LowBits.fcvtLuD (rd : XReg) (rs1 : FReg) (rm : RmField) : LowBits.Statement (.fcvtLuD rd rs1 rm) := (low_encR _ _ _ _ _ _).trans (by decide)
theorem LowBits.fmvXD (rd : XReg) (rs1 : FReg) : LowBits.Statement (.fmvXD rd rs1) := (low_encR _ _ _ _ _ _).trans (by decide)
theorem LowBits.fcvtDL (rd : FReg) (rs1 : XReg) (rm : RmField) : LowBits.Statement (.fcvtDL rd rs1 rm) := (low_encR _ _ _ _ _ _).trans (by decide)
theorem LowBits.fcvtDLu (rd : FReg) (rs1 : XReg) (rm : RmField) : LowBits.Statement (.fcvtDLu rd rs1 rm) := (low_encR _ _ _ _ _ _).trans (by decide)
theorem LowBits.fmvDX (rd : FReg) (rs1 : XReg) : LowBits.Statement (.fmvDX rd rs1) := (low_encR _ _ _ _ _ _).trans (by decide)
theorem LowBits.csrrw (rd : XReg) (rs1 : XReg) (csr : CsrAddr) : LowBits.Statement (.csrrw rd rs1 csr) := (low_encI _ _ _ _ _).trans (by decide)
theorem LowBits.csrrs (rd : XReg) (rs1 : XReg) (csr : CsrAddr) : LowBits.Statement (.csrrs rd rs1 csr) := (low_encI _ _ _ _ _).trans (by decide)
theorem LowBits.csrrc (rd : XReg) (rs1 : XReg) (csr : CsrAddr) : LowBits.Statement (.csrrc rd rs1 csr) := (low_encI _ _ _ _ _).trans (by decide)
theorem LowBits.csrrwi (rd : XReg) (uimm : Uimm5) (csr : CsrAddr) : LowBits.Statement (.csrrwi rd uimm csr) := (low_encI _ _ _ _ _).trans (by decide)
theorem LowBits.csrrsi (rd : XReg) (uimm : Uimm5) (csr : CsrAddr) : LowBits.Statement (.csrrsi rd uimm csr) := (low_encI _ _ _ _ _).trans (by decide)
theorem LowBits.csrrci (rd : XReg) (uimm : Uimm5) (csr : CsrAddr) : LowBits.Statement (.csrrci rd uimm csr) := (low_encI _ _ _ _ _).trans (by decide)

end Sys2Proof.Laws
end

