-- ==== Sys2Proof/Tests/Slice0.lean ====
section
/-! SUPPORT. Tests: ill-formed terms, the words the spec writes out, one step of each instruction with the result the spec
gives, and a witness for every statement that has hypotheses. Each word and each expected value is the spec's. -/

namespace Sys2Proof.Tests

open Sys2Proof Sys2Proof.Machine

set_option Elab.async false

/-! ### WellFormed: a term that each check refuses -/

theorem test_wf_refuses_rv64_only_at_rv32 : (Instr.addw 5 6 7).wfXLen .rv32 = false ∧ (Instr.addw 5 6 7).wf .rv32 = false ∧
    (Instr.addw 5 6 7).wf .rv64 = true := by decide
theorem test_wf_refuses_odd_branch_offset : (Instr.beq 5 6 101).wfOffset = false ∧ (Instr.beq 5 6 101).wf .rv64 = false ∧
    (Instr.beq 5 6 100).wf .rv64 = true := by decide
theorem test_wf_refuses_odd_jal_offset : (Instr.jal 1 3).wfOffset = false ∧ (Instr.jal 1 3).wf .rv32 = false := by decide
theorem test_wf_refuses_wide_shamt_at_rv32 : (Instr.slli 5 6 32).wfShamt .rv32 = false ∧ (Instr.slli 5 6 32).wf .rv32 = false ∧
    (Instr.slli 5 6 31).wf .rv32 = true ∧ (Instr.slli 5 6 63).wf .rv64 = true := by decide

/-! ### Decoding: a word the spec writes out for every mnemonic, by family -/

/-- The word decodes to the instruction. -/
def reads (xl : XLen) (w : Nat) (i : Instr) : Bool :=
  match decode xl (BitVec.ofNat 32 w) with
  | .ok j => j == i
  | .error _ => false

/-- The word is refused, for this reason. -/
def refuses (xl : XLen) (w : Nat) (r : Reject) : Bool :=
  match decode xl (BitVec.ofNat 32 w) with
  | .ok _ => false
  | .error q => q == r

theorem test_decode_Arith : (
  reads .rv64 0x01430293 (.addi 5 6 20) && reads .rv64 0x01432293 (.slti 5 6 20) &&
  reads .rv64 0x01433293 (.sltiu 5 6 20) && reads .rv64 0x007302b3 (.add 5 6 7) &&
  reads .rv64 0x407302b3 (.sub 5 6 7) && reads .rv64 0x007322b3 (.slt 5 6 7) &&
  reads .rv64 0x007332b3 (.sltu 5 6 7) && reads .rv64 0x0143029b (.addiw 5 6 20) &&
  reads .rv64 0x007302bb (.addw 5 6 7) && reads .rv64 0x407302bb (.subw 5 6 7)) = true := by decide +kernel

theorem test_decode_Transfer : (
  reads .rv64 0x123452b7 (.lui 5 74565) && reads .rv64 0x12345297 (.auipc 5 74565) &&
  reads .rv64 0x02830283 (.lb 5 6 40) && reads .rv64 0x02831283 (.lh 5 6 40) && reads .rv64 0x02832283 (.lw 5 6 40) &&
  reads .rv64 0x02834283 (.lbu 5 6 40) && reads .rv64 0x02835283 (.lhu 5 6 40) &&
  reads .rv64 0x02836283 (.lwu 5 6 40) && reads .rv64 0x02833283 (.ld 5 6 40) &&
  reads .rv64 0x02530423 (.sb 6 5 40) && reads .rv64 0x02531423 (.sh 6 5 40) && reads .rv64 0x02532423 (.sw 6 5 40) &&
  reads .rv64 0x02533423 (.sd 6 5 40)) = true := by decide +kernel

theorem test_decode_Logic : (
  reads .rv64 0x01434293 (.xori 5 6 20) && reads .rv64 0x01436293 (.ori 5 6 20) &&
  reads .rv64 0x01437293 (.andi 5 6 20) && reads .rv64 0x00331293 (.slli 5 6 3) &&
  reads .rv64 0x00335293 (.srli 5 6 3) && reads .rv64 0x40335293 (.srai 5 6 3) &&
  reads .rv64 0x007312b3 (.sll 5 6 7) && reads .rv64 0x009342b3 (.xor 5 6 9) && reads .rv64 0x007352b3 (.srl 5 6 7) &&
  reads .rv64 0x407352b3 (.sra 5 6 7) && reads .rv64 0x008362b3 (.or 5 6 8) && reads .rv64 0x007372b3 (.and 5 6 7) &&
  reads .rv64 0x0033129b (.slliw 5 6 3) && reads .rv64 0x0033529b (.srliw 5 6 3) &&
  reads .rv64 0x4033529b (.sraiw 5 6 3) && reads .rv64 0x007312bb (.sllw 5 6 7) &&
  reads .rv64 0x007352bb (.srlw 5 6 7) && reads .rv64 0x407352bb (.sraw 5 6 7)) = true := by decide +kernel

theorem test_decode_Control : (
  reads .rv64 0x064000ef (.jal 1 100) && reads .rv64 0x064280e7 (.jalr 1 5 100) &&
  reads .rv64 0x06628263 (.beq 5 6 100) && reads .rv64 0x06629263 (.bne 5 6 100) &&
  reads .rv64 0x0662c263 (.blt 5 6 100) && reads .rv64 0x0662d263 (.bge 5 6 100) &&
  reads .rv64 0x0662e263 (.bltu 5 6 100) && reads .rv64 0x0662f263 (.bgeu 5 6 100)) = true := by decide +kernel

theorem test_decode_Order : (
  reads .rv64 0x0310000f (.fence 0 3 1 0 0) && reads .rv64 0x0000100f (.fenceI 0 0 0) &&
  reads .rv64 0x00000073 .ecall && reads .rv64 0x00100073 .ebreak) = true := by decide +kernel

theorem test_decode_MulDiv : (
  reads .rv64 0x027302b3 (.mul 5 6 7) && reads .rv64 0x027312b3 (.mulh 5 6 7) &&
  reads .rv64 0x027322b3 (.mulhsu 5 6 7) && reads .rv64 0x027332b3 (.mulhu 5 6 7) &&
  reads .rv64 0x027342b3 (.div 5 6 7) && reads .rv64 0x027352b3 (.divu 5 6 7) &&
  reads .rv64 0x027362b3 (.rem 5 6 7) && reads .rv64 0x027372b3 (.remu 5 6 7) &&
  reads .rv64 0x027302bb (.mulw 5 6 7) && reads .rv64 0x027342bb (.divw 5 6 7) &&
  reads .rv64 0x027352bb (.divuw 5 6 7) && reads .rv64 0x027362bb (.remw 5 6 7) &&
  reads .rv64 0x027372bb (.remuw 5 6 7)) = true := by decide +kernel

theorem test_decode_Atomic : (
  reads .rv64 0x100322af (.lrW 5 6 false false) && reads .rv64 0x100332af (.lrD 5 6 false false) &&
  reads .rv64 0x185323af (.scW 7 6 5 false false) && reads .rv64 0x185333af (.scD 7 6 5 false false) &&
  reads .rv64 0x0863a2af (.amoswapW 5 7 6 false false) && reads .rv64 0x0863b2af (.amoswapD 5 7 6 false false) &&
  reads .rv64 0x0063a2af (.amoaddW 5 7 6 false false) && reads .rv64 0x0063b2af (.amoaddD 5 7 6 false false) &&
  reads .rv64 0x2063a2af (.amoxorW 5 7 6 false false) && reads .rv64 0x2063b2af (.amoxorD 5 7 6 false false) &&
  reads .rv64 0x6063a2af (.amoandW 5 7 6 false false) && reads .rv64 0x6063b2af (.amoandD 5 7 6 false false) &&
  reads .rv64 0x4063a2af (.amoorW 5 7 6 false false) && reads .rv64 0x4063b2af (.amoorD 5 7 6 false false) &&
  reads .rv64 0x8063a2af (.amominW 5 7 6 false false) && reads .rv64 0x8063b2af (.amominD 5 7 6 false false) &&
  reads .rv64 0xa063a2af (.amomaxW 5 7 6 false false) && reads .rv64 0xa063b2af (.amomaxD 5 7 6 false false) &&
  reads .rv64 0xc063a2af (.amominuW 5 7 6 false false) && reads .rv64 0xc063b2af (.amominuD 5 7 6 false false) &&
  reads .rv64 0xe063a2af (.amomaxuW 5 7 6 false false) && reads .rv64 0xe063b2af (.amomaxuD 5 7 6 false false)) = true := by decide +kernel

theorem test_decode_FpSingle : (
  reads .rv64 0x02832287 (.flw 5 6 40) && reads .rv64 0x02532427 (.fsw 6 5 40) &&
  reads .rv64 0x407372c3 (.fmaddS 5 6 7 8 7) && reads .rv64 0x407372c7 (.fmsubS 5 6 7 8 7) &&
  reads .rv64 0x407372cb (.fnmsubS 5 6 7 8 7) && reads .rv64 0x407372cf (.fnmaddS 5 6 7 8 7) &&
  reads .rv64 0x007372d3 (.faddS 5 6 7 7) && reads .rv64 0x087372d3 (.fsubS 5 6 7 7) &&
  reads .rv64 0x107372d3 (.fmulS 5 6 7 7) && reads .rv64 0x187372d3 (.fdivS 5 6 7 7) &&
  reads .rv64 0x580372d3 (.fsqrtS 5 6 7) && reads .rv64 0x207302d3 (.fsgnjS 5 6 7) &&
  reads .rv64 0x207312d3 (.fsgnjnS 5 6 7) && reads .rv64 0x207322d3 (.fsgnjxS 5 6 7) &&
  reads .rv64 0x287302d3 (.fminS 5 6 7) && reads .rv64 0x287312d3 (.fmaxS 5 6 7) &&
  reads .rv64 0xc00372d3 (.fcvtWS 5 6 7) && reads .rv64 0xc01372d3 (.fcvtWuS 5 6 7) &&
  reads .rv64 0xe00302d3 (.fmvXW 5 6) && reads .rv64 0xa07322d3 (.feqS 5 6 7) &&
  reads .rv64 0xa07312d3 (.fltS 5 6 7) && reads .rv64 0xa07302d3 (.fleS 5 6 7) &&
  reads .rv64 0xe00312d3 (.fclassS 5 6) && reads .rv64 0xd00372d3 (.fcvtSW 5 6 7) &&
  reads .rv64 0xd01372d3 (.fcvtSWu 5 6 7) && reads .rv64 0xf00302d3 (.fmvWX 5 6) &&
  reads .rv64 0xc02372d3 (.fcvtLS 5 6 7) && reads .rv64 0xc03372d3 (.fcvtLuS 5 6 7) &&
  reads .rv64 0xd02372d3 (.fcvtSL 5 6 7) && reads .rv64 0xd03372d3 (.fcvtSLu 5 6 7)) = true := by decide +kernel

theorem test_decode_FpDouble : (
  reads .rv64 0x02833287 (.fld 5 6 40) && reads .rv64 0x02533427 (.fsd 6 5 40) &&
  reads .rv64 0x427372c3 (.fmaddD 5 6 7 8 7) && reads .rv64 0x427372c7 (.fmsubD 5 6 7 8 7) &&
  reads .rv64 0x427372cb (.fnmsubD 5 6 7 8 7) && reads .rv64 0x427372cf (.fnmaddD 5 6 7 8 7) &&
  reads .rv64 0x027372d3 (.faddD 5 6 7 7) && reads .rv64 0x0a7372d3 (.fsubD 5 6 7 7) &&
  reads .rv64 0x127372d3 (.fmulD 5 6 7 7) && reads .rv64 0x1a7372d3 (.fdivD 5 6 7 7) &&
  reads .rv64 0x5a0372d3 (.fsqrtD 5 6 7) && reads .rv64 0x227302d3 (.fsgnjD 5 6 7) &&
  reads .rv64 0x227312d3 (.fsgnjnD 5 6 7) && reads .rv64 0x227322d3 (.fsgnjxD 5 6 7) &&
  reads .rv64 0x2a7302d3 (.fminD 5 6 7) && reads .rv64 0x2a7312d3 (.fmaxD 5 6 7) &&
  reads .rv64 0x401372d3 (.fcvtSD 5 6 7) && reads .rv64 0x420302d3 (.fcvtDS 5 6 0) &&
  reads .rv64 0xa27322d3 (.feqD 5 6 7) && reads .rv64 0xa27312d3 (.fltD 5 6 7) &&
  reads .rv64 0xa27302d3 (.fleD 5 6 7) && reads .rv64 0xe20312d3 (.fclassD 5 6) &&
  reads .rv64 0xc20372d3 (.fcvtWD 5 6 7) && reads .rv64 0xc21372d3 (.fcvtWuD 5 6 7) &&
  reads .rv64 0xd20302d3 (.fcvtDW 5 6 0) && reads .rv64 0xd21302d3 (.fcvtDWu 5 6 0) &&
  reads .rv64 0xc22372d3 (.fcvtLD 5 6 7) && reads .rv64 0xc23372d3 (.fcvtLuD 5 6 7) &&
  reads .rv64 0xe20302d3 (.fmvXD 5 6) && reads .rv64 0xd22372d3 (.fcvtDL 5 6 7) &&
  reads .rv64 0xd23372d3 (.fcvtDLu 5 6 7) && reads .rv64 0xf20302d3 (.fmvDX 5 6)) = true := by decide +kernel

theorem test_decode_Csr : (
  reads .rv64 0x003312f3 (.csrrw 5 6 3) && reads .rv64 0x003322f3 (.csrrs 5 6 3) &&
  reads .rv64 0x003332f3 (.csrrc 5 6 3) && reads .rv64 0x0032d2f3 (.csrrwi 5 5 3) &&
  reads .rv64 0x0032e2f3 (.csrrsi 5 5 3) && reads .rv64 0x0032f2f3 (.csrrci 5 5 3)) = true := by decide +kernel

/-- Field variants: negative offsets, `.aqrl`, a static rounding mode, `fence.tso`, ignored fields (30_encoding.md, 44_, 46_). -/
theorem test_decode_variants : (reads .rv64 0xfe039ce3 (.bne 7 0 (-8)) && reads .rv64 0x8330000f (.fence 8 3 3 0 0) &&
    reads .rv32 0x027332d3 (.faddD 5 6 7 3) && reads .rv32 0x007312d3 (.faddS 5 6 7 1) &&
    reads .rv64 0x188333af (.scD 7 6 8 false false) && reads .rv32 0x0ff0000f (.fence 0 15 15 0 0)) = true := by
  decide +kernel
/-- Refused words: the compressed space, a row of the other XLEN, a wide shamt at XLEN = 32, `mret` (30_encoding.md R120, R131
to R133, 44_memory_order_environment.md R325). -/
theorem test_decode_refusals : (refuses .rv32 0x00000000 .compressedSpace && refuses .rv64 0xfffffffe .compressedSpace &&
    refuses .rv32 0x007302bb .notAtThisXLen && refuses .rv32 0x02031293 .notAtThisXLen &&
    refuses .rv64 0x30200073 .unusedEncoding && refuses .rv64 0xffffffff .unusedMajorOpcode) = true := by decide +kernel
/-- The word number of the opcode table decodes as the word does. -/
theorem test_decodeTableWord : decodeTableWord 32 0x007302b3 = some (.add 5 6 7) ∧ decodeTableWord 32 0x00000000 = none := by
  decide +kernel
/-- Reset: pc, x0, no reservation (10_state.md R50); a load placed at pc runs first. -/
theorem test_reset : State.reset.pc = 0x1000 ∧ State.reset.readX 0 = 0 ∧ State.reset.res = none ∧ State.reset.mem.wf = true := by
  decide +kernel

/-! ### One step of each instruction: the rows of 95_test_vectors.md and the examples of the rules -/

/-- A state at pc = 0x100 with 1 MiB of memory, the registers and bytes listed, the rest zero. -/
def small (xl : XLen) (xs : List (XReg × Word)) (fs : List (FReg × Word)) (cells : List Host.Cell) (fcsr : BitVec 8) : State :=
  let p : Params := { xlen := xl, memBase := 0, memSize := 0x100000, resetPc := 0x100, resGrain := 8 }
  let s := xs.foldl (fun s c => s.writeX c.1 c.2) (State.resetWith p { cells := [] })
  { (fs.foldl (fun s c => s.writeF c.1 c.2) s).load cells with fcsr := fcsr }

/-- The next step runs the word and answers a state with the property. -/
def after (s : State) (w : Nat) (p : State → Bool) : Bool :=
  match step (s.withFetchWord 32 w) with
  | .next t => p t
  | _ => false

/-- The next step traps. -/
def traps (s : State) (w : Nat) (e : Exception) (info : Word) : Bool :=
  match step (s.withFetchWord 32 w) with
  | .fault f => f == .trap e info
  | _ => false

/-- The eight bytes of the rows of 95_test_vectors.md. -/
def bytes : List Host.Cell := [(0x1028, 0x88), (0x1029, 0x99), (0x102a, 0xaa), (0x102b, 0xbb), (0x102c, 0xcc), (0x102d, 0xdd),
  (0x102e, 0xee), (0x102f, 0xff)]

/-- 2.2. -/
theorem test_lui : after (small .rv64 [] [] [] 0) 0x800002b7 (fun t =>
    t.readX 5 == 0xffffffff80000000 && t.pc == 0x104) = true := by decide +kernel
/-- 2.2. -/
theorem test_auipc : after (small .rv64 [] [] [] 0) 0x80000297 (fun t =>
    t.readX 5 == 0xffffffff80000100 && t.pc == 0x104) = true := by decide +kernel
/-- 2.4. -/
theorem test_jal : after { small .rv32 [] [] [] 0 with pc := 0xffffc } 0x8000ef (fun t =>
    t.readX 1 == 0x100000 && t.pc == 0x100004) = true := by decide +kernel
/-- 2.4. -/
theorem test_jalr : after (small .rv64 [(5, 0)] [] [] 0) 0xffc280e7 (fun t =>
    t.readX 1 == 0x104 && t.pc == 0xfffffffffffffffc) = true := by decide +kernel
/-- 2.4. -/
theorem test_beq : after (small .rv32 [(5, 7), (6, 7)] [] [] 0) 0xfe628ce3 (fun t =>
    t.pc == 0xf8) = true := by decide +kernel
/-- 1.4. -/
theorem test_bne : after (small .rv64 [(5, 0xffffffffffffffff), (6, 1)] [] [] 0) 0x6629263 (fun t =>
    t.pc == 0x164) = true := by decide +kernel
/-- 2.4. -/
theorem test_blt : after (small .rv32 [(5, 0xffffffff), (6, 0)] [] [] 0) 0x62c463 (fun t =>
    t.pc == 0x108) = true := by decide +kernel
/-- 1.4. -/
theorem test_bge : after (small .rv64 [(5, 0xffffffffffffffff), (6, 1)] [] [] 0) 0x662d263 (fun t =>
    t.pc == 0x104) = true := by decide +kernel
/-- 1.4. -/
theorem test_bltu : after (small .rv64 [(5, 0xffffffffffffffff), (6, 1)] [] [] 0) 0x662e263 (fun t =>
    t.pc == 0x104) = true := by decide +kernel
/-- 2.4. -/
theorem test_bgeu : after (small .rv32 [(5, 0), (6, 0)] [] [] 0) 0x62f463 (fun t =>
    t.pc == 0x108) = true := by decide +kernel
/-- 2.2. -/
theorem test_lb : after (small .rv32 [(6, 0x1000)] [] bytes 0) 0x2930283 (fun t =>
    t.readX 5 == 0xffffff99 && t.pc == 0x104) = true := by decide +kernel
/-- 1.2. -/
theorem test_lh : after (small .rv64 [(6, 0x1000)] [] bytes 0) 0x2831283 (fun t =>
    t.readX 5 == 0xffffffffffff9988 && t.pc == 0x104) = true := by decide +kernel
/-- 2.2. -/
theorem test_lw : after (small .rv32 [(6, 0x1030)] [] bytes 0) 0xffc32283 (fun t =>
    t.readX 5 == 0xffeeddcc && t.pc == 0x104) = true := by decide +kernel
/-- 1.2. -/
theorem test_lbu : after (small .rv64 [(6, 0x1000)] [] bytes 0) 0x2834283 (fun t =>
    t.readX 5 == 0x88 && t.pc == 0x104) = true := by decide +kernel
/-- 1.2. -/
theorem test_lhu : after (small .rv64 [(6, 0x1000)] [] bytes 0) 0x2835283 (fun t =>
    t.readX 5 == 0x9988 && t.pc == 0x104) = true := by decide +kernel
/-- 1.2. -/
theorem test_lwu : after (small .rv64 [(6, 0x1000)] [] bytes 0) 0x2836283 (fun t =>
    t.readX 5 == 0xbbaa9988 && t.pc == 0x104) = true := by decide +kernel
/-- 2.2. -/
theorem test_ld : after (small .rv64 [(6, 0x1000)] [] bytes 0) 0x2833283 (fun t =>
    t.readX 5 == 0xffeeddccbbaa9988 && t.pc == 0x104) = true := by decide +kernel
/-- 1.2. -/
theorem test_sb : after (small .rv64 [(6, 0x1000), (5, 0x102030405060708)] [] bytes 0) 0x2530423 (fun t =>
    t.mem.read 0x1028 == 8 && t.pc == 0x104) = true := by decide +kernel
/-- 1.2. -/
theorem test_sh : after (small .rv64 [(6, 0x1000), (5, 0x102030405060708)] [] bytes 0) 0x2531423 (fun t =>
    t.mem.read 0x1028 == 8 && t.mem.read 0x1029 == 7 && t.pc == 0x104) = true := by decide +kernel
/-- 2.2. -/
theorem test_sw : after (small .rv64 [(6, 0x1000), (5, 0x102030405060708)] [] bytes 0) 0x2532423 (fun t =>
    t.mem.read 0x1028 == 8 && t.mem.read 0x1029 == 7 && t.mem.read 0x102a == 6 && t.mem.read 0x102b == 5 && t.pc == 0x104) = true := by decide +kernel
/-- 2.2. -/
theorem test_sd : after (small .rv64 [(6, 0x1000), (5, 0x102030405060708)] [] bytes 0) 0x2533423 (fun t =>
    t.mem.read 0x1028 == 8 && t.mem.read 0x1029 == 7 && t.mem.read 0x102a == 6 && t.mem.read 0x102b == 5 && t.mem.read 0x102c == 4 && t.mem.read 0x102d == 3 && t.mem.read 0x102e == 2 && t.mem.read 0x102f == 1 && t.pc == 0x104) = true := by decide +kernel
/-- 2.1. -/
theorem test_addi : after (small .rv64 [(6, 0)] [] [] 0) 0xfff30293 (fun t =>
    t.readX 5 == 0xffffffffffffffff && t.pc == 0x104) = true := by decide +kernel
/-- 2.1. -/
theorem test_slti : after (small .rv32 [(6, 0xfffffffe)] [] [] 0) 0xfff32293 (fun t =>
    t.readX 5 == 1 && t.pc == 0x104) = true := by decide +kernel
/-- 2.1. -/
theorem test_sltiu : after (small .rv64 [(6, 0xffffffff)] [] [] 0) 0xfff33293 (fun t =>
    t.readX 5 == 1 && t.pc == 0x104) = true := by decide +kernel
/-- 2.3. -/
theorem test_xori : after (small .rv32 [(6, 0x12345678)] [] [] 0) 0xfff34293 (fun t =>
    t.readX 5 == 0xedcba987 && t.pc == 0x104) = true := by decide +kernel
/-- 2.3. -/
theorem test_ori : after (small .rv64 [(6, 0)] [] [] 0) 0x80036293 (fun t =>
    t.readX 5 == 0xfffffffffffff800 && t.pc == 0x104) = true := by decide +kernel
/-- 2.3. -/
theorem test_andi : after (small .rv64 [(6, 0xffffffffffffffff)] [] [] 0) 0x7ff37293 (fun t =>
    t.readX 5 == 0x7ff && t.pc == 0x104) = true := by decide +kernel
/-- 2.3. -/
theorem test_slli : after (small .rv64 [(6, 3)] [] [] 0) 0x3f31293 (fun t =>
    t.readX 5 == 0x8000000000000000 && t.pc == 0x104) = true := by decide +kernel
/-- 2.3. -/
theorem test_srli : after (small .rv64 [(6, 0xdeadbeef00000000)] [] [] 0) 0x2035293 (fun t =>
    t.readX 5 == 0xdeadbeef && t.pc == 0x104) = true := by decide +kernel
/-- 2.3. -/
theorem test_srai : after (small .rv64 [(6, 0x8000000000000000)] [] [] 0) 0x43f35293 (fun t =>
    t.readX 5 == 0xffffffffffffffff && t.pc == 0x104) = true := by decide +kernel
/-- 2.1. -/
theorem test_add : after (small .rv64 [(6, 0x7fffffff), (7, 1)] [] [] 0) 0x7302b3 (fun t =>
    t.readX 5 == 0x80000000 && t.pc == 0x104) = true := by decide +kernel
/-- 2.1. -/
theorem test_sub : after (small .rv32 [(6, 0), (7, 1)] [] [] 0) 0x407302b3 (fun t =>
    t.readX 5 == 0xffffffff && t.pc == 0x104) = true := by decide +kernel
/-- 2.3. -/
theorem test_sll : after (small .rv64 [(6, 1), (7, 0x20)] [] [] 0) 0x7312b3 (fun t =>
    t.readX 5 == 0x100000000 && t.pc == 0x104) = true := by decide +kernel
/-- 2.1. -/
theorem test_slt : after (small .rv32 [(6, 0x80000000), (7, 0x7fffffff)] [] [] 0) 0x7322b3 (fun t =>
    t.readX 5 == 1 && t.pc == 0x104) = true := by decide +kernel
/-- 2.1. -/
theorem test_sltu : after (small .rv32 [(6, 0x80000000), (7, 0x7fffffff)] [] [] 0) 0x7332b3 (fun t =>
    t.readX 5 == 0 && t.pc == 0x104) = true := by decide +kernel
/-- 1.1. -/
theorem test_xor : after (small .rv64 [(6, 0xfffffffffffffff0), (9, 0xff)] [] [] 0) 0x9342b3 (fun t =>
    t.readX 5 == 0xffffffffffffff0f && t.pc == 0x104) = true := by decide +kernel
/-- 2.3. -/
theorem test_srl : after (small .rv32 [(6, 0x80000000), (7, 0xffffffff)] [] [] 0) 0x7352b3 (fun t =>
    t.readX 5 == 1 && t.pc == 0x104) = true := by decide +kernel
/-- 2.3. -/
theorem test_sra : after (small .rv64 [(6, 0x80000000), (7, 0x1f)] [] [] 0) 0x407352b3 (fun t =>
    t.readX 5 == 1 && t.pc == 0x104) = true := by decide +kernel
/-- 1.1. -/
theorem test_or : after (small .rv64 [(6, 0xfffffffffffffff0), (8, 0xf0f)] [] [] 0) 0x8362b3 (fun t =>
    t.readX 5 == 0xffffffffffffffff && t.pc == 0x104) = true := by decide +kernel
/-- 1.1. -/
theorem test_and : after (small .rv64 [(6, 0xfffffffffffffff0), (7, 7)] [] [] 0) 0x7372b3 (fun t =>
    t.readX 5 == 0 && t.pc == 0x104) = true := by decide +kernel
/-- 2.5. -/
theorem test_fence : after (small .rv32 [] [] [] 0) 0x310000f (fun t =>
    t.pc == 0x104) = true := by decide +kernel
/-- 1.5. -/
theorem test_fenceI : after (small .rv64 [] [] [] 0) 0x100f (fun t =>
    t.pc == 0x104) = true := by decide +kernel
/-- 2.5. -/
theorem test_ecall_traps : traps { small .rv32 [] [] [] 0 with pc := 0x200 } 0x73 .environmentCall
    0 = true := by decide +kernel
/-- 2.5. -/
theorem test_ebreak_traps : traps { small .rv64 [] [] [] 0 with pc := 0x200 } 0x100073 .breakpoint
    0x200 = true := by decide +kernel
/-- 2.1. -/
theorem test_addiw : after (small .rv64 [(6, 0x7fffffff)] [] [] 0) 0x13029b (fun t =>
    t.readX 5 == 0xffffffff80000000 && t.pc == 0x104) = true := by decide +kernel
/-- 2.3. -/
theorem test_slliw : after (small .rv64 [(6, 0xffffffff00000001)] [] [] 0) 0x1f3129b (fun t =>
    t.readX 5 == 0xffffffff80000000 && t.pc == 0x104) = true := by decide +kernel
/-- 2.3. -/
theorem test_srliw : after (small .rv64 [(6, 0x80000000)] [] [] 0) 0x3529b (fun t =>
    t.readX 5 == 0xffffffff80000000 && t.pc == 0x104) = true := by decide +kernel
/-- 2.3. -/
theorem test_sraiw : after (small .rv64 [(6, 0x80000000)] [] [] 0) 0x41f3529b (fun t =>
    t.readX 5 == 0xffffffffffffffff && t.pc == 0x104) = true := by decide +kernel
/-- 2.1. -/
theorem test_addw : after (small .rv64 [(6, 0xffffffff), (7, 1)] [] [] 0) 0x7302bb (fun t =>
    t.readX 5 == 0 && t.pc == 0x104) = true := by decide +kernel
/-- 2.1. -/
theorem test_subw : after (small .rv64 [(6, 0x80000000), (7, 1)] [] [] 0) 0x407302bb (fun t =>
    t.readX 5 == 0x7fffffff && t.pc == 0x104) = true := by decide +kernel
/-- 2.3. -/
theorem test_sllw : after (small .rv64 [(6, 1), (7, 0x1f)] [] [] 0) 0x7312bb (fun t =>
    t.readX 5 == 0xffffffff80000000 && t.pc == 0x104) = true := by decide +kernel
/-- 2.3. -/
theorem test_srlw : after (small .rv64 [(6, 0xffffffff80000000), (7, 4)] [] [] 0) 0x7352bb (fun t =>
    t.readX 5 == 0x8000000 && t.pc == 0x104) = true := by decide +kernel
/-- 2.3. -/
theorem test_sraw : after (small .rv64 [(6, 0x80000000), (7, 4)] [] [] 0) 0x407352bb (fun t =>
    t.readX 5 == 0xfffffffff8000000 && t.pc == 0x104) = true := by decide +kernel
/-- 2.6. -/
theorem test_mul : after (small .rv64 [(6, 0x10000), (7, 0x10000)] [] [] 0) 0x27302b3 (fun t =>
    t.readX 5 == 0x100000000 && t.pc == 0x104) = true := by decide +kernel
/-- 2.6. -/
theorem test_mulh : after (small .rv64 [(6, 0x8000000000000000), (7, 0x8000000000000000)] [] [] 0) 0x27312b3 (fun t =>
    t.readX 5 == 0x4000000000000000 && t.pc == 0x104) = true := by decide +kernel
/-- 2.6. -/
theorem test_mulhsu : after (small .rv32 [(6, 0x80000000), (7, 0x80000000)] [] [] 0) 0x27322b3 (fun t =>
    t.readX 5 == 0xc0000000 && t.pc == 0x104) = true := by decide +kernel
/-- 2.6. -/
theorem test_mulhu : after (small .rv64 [(6, 0xffffffffffffffff), (7, 0xffffffffffffffff)] [] [] 0) 0x27332b3 (fun t =>
    t.readX 5 == 0xfffffffffffffffe && t.pc == 0x104) = true := by decide +kernel
/-- 2.6. -/
theorem test_div : after (small .rv64 [(6, 0x8000000000000000), (7, 0xffffffffffffffff)] [] [] 0) 0x27342b3 (fun t =>
    t.readX 5 == 0x8000000000000000 && t.pc == 0x104) = true := by decide +kernel
/-- 2.6. -/
theorem test_divu : after (small .rv32 [(6, 7), (7, 0)] [] [] 0) 0x27352b3 (fun t =>
    t.readX 5 == 0xffffffff && t.pc == 0x104) = true := by decide +kernel
/-- 2.6. -/
theorem test_rem : after (small .rv32 [(6, 0x80000000), (7, 0xffffffff)] [] [] 0) 0x27362b3 (fun t =>
    t.readX 5 == 0 && t.pc == 0x104) = true := by decide +kernel
/-- 2.6. -/
theorem test_remu : after (small .rv32 [(6, 7), (7, 0)] [] [] 0) 0x27372b3 (fun t =>
    t.readX 5 == 7 && t.pc == 0x104) = true := by decide +kernel
/-- 2.6. -/
theorem test_mulw : after (small .rv64 [(6, 0xffffffff), (7, 0xffffffff)] [] [] 0) 0x27302bb (fun t =>
    t.readX 5 == 1 && t.pc == 0x104) = true := by decide +kernel
/-- 2.6. -/
theorem test_divw : after (small .rv64 [(6, 0x80000000), (7, 0xffffffff)] [] [] 0) 0x27342bb (fun t =>
    t.readX 5 == 0xffffffff80000000 && t.pc == 0x104) = true := by decide +kernel
/-- 2.6. -/
theorem test_divuw : after (small .rv64 [(6, 0xffffffff80000000), (7, 2)] [] [] 0) 0x27352bb (fun t =>
    t.readX 5 == 0x40000000 && t.pc == 0x104) = true := by decide +kernel
/-- 2.6. -/
theorem test_remw : after (small .rv64 [(6, 0x80000000), (7, 0)] [] [] 0) 0x27362bb (fun t =>
    t.readX 5 == 0xffffffff80000000 && t.pc == 0x104) = true := by decide +kernel
/-- 2.6. -/
theorem test_remuw : after (small .rv64 [(6, 0xffffffff80000001), (7, 0x100000002)] [] [] 0) 0x27372bb (fun t =>
    t.readX 5 == 1 && t.pc == 0x104) = true := by decide +kernel
/-- 2.7. -/
theorem test_lrW : after (small .rv64 [(6, 0x102c)] [] bytes 0) 0x100322af (fun t =>
    t.readX 5 == 0xffffffffffeeddcc && t.res == some ⟨0x102c, .word⟩ && t.pc == 0x104) = true := by decide +kernel
/-- 1.6. -/
theorem test_lrD : after (small .rv64 [(6, 0x1028)] [] bytes 0) 0x100332af (fun t =>
    t.readX 5 == 0xffeeddccbbaa9988 && t.res == some ⟨0x1028, .double⟩ && t.pc == 0x104) = true := by decide +kernel
/-- 2.7. -/
theorem test_scW : after (small .rv32 [(6, 0x1028), (5, 0x11223344)] [] bytes 0) 0x185323af (fun t =>
    t.readX 7 == 1 && t.res == none && t.pc == 0x104) = true := by decide +kernel
/-- 1.6. -/
theorem test_scD : after (small .rv64 [(6, 0x1028), (5, 0x102030405060708)] [] bytes 0) 0x185333af (fun t =>
    t.readX 7 == 1 && t.res == none && t.pc == 0x104) = true := by decide +kernel
/-- 2.7. -/
theorem test_amoswapW : after (small .rv32 [(7, 0x1028), (5, 0x11223344)] [] bytes 0) 0x853a2af (fun t =>
    t.readX 5 == 0xbbaa9988 && t.mem.read 0x1028 == 0x44 && t.mem.read 0x1029 == 0x33 && t.mem.read 0x102a == 0x22 && t.mem.read 0x102b == 0x11 && t.pc == 0x104) = true := by decide +kernel
/-- 1.6. -/
theorem test_amoswapD : after (small .rv64 [(7, 0x1028), (6, 0x100000f0f)] [] bytes 0) 0x863b2af (fun t =>
    t.readX 5 == 0xffeeddccbbaa9988 && t.mem.read 0x1028 == 0xf && t.mem.read 0x1029 == 0xf && t.mem.read 0x102a == 0 && t.mem.read 0x102b == 0 && t.mem.read 0x102c == 1 && t.mem.read 0x102d == 0 && t.mem.read 0x102e == 0 && t.mem.read 0x102f == 0 && t.pc == 0x104) = true := by decide +kernel
/-- 2.7. -/
theorem test_amoaddW : after (small .rv32 [(7, 0x1028), (6, 0x80000000)] [] bytes 0) 0x63a2af (fun t =>
    t.readX 5 == 0xbbaa9988 && t.mem.read 0x1028 == 0x88 && t.mem.read 0x1029 == 0x99 && t.mem.read 0x102a == 0xaa && t.mem.read 0x102b == 0x3b && t.pc == 0x104) = true := by decide +kernel
/-- 1.6. -/
theorem test_amoaddD : after (small .rv64 [(7, 0x1028), (6, 0x100000f0f)] [] bytes 0) 0x63b2af (fun t =>
    t.readX 5 == 0xffeeddccbbaa9988 && t.mem.read 0x1028 == 0x97 && t.mem.read 0x1029 == 0xa8 && t.mem.read 0x102a == 0xaa && t.mem.read 0x102b == 0xbb && t.mem.read 0x102c == 0xcd && t.mem.read 0x102d == 0xdd && t.mem.read 0x102e == 0xee && t.mem.read 0x102f == 0xff && t.pc == 0x104) = true := by decide +kernel
/-- 1.6. -/
theorem test_amoxorW : after (small .rv64 [(7, 0x1028), (6, 0x100000f0f)] [] bytes 0) 0x2063a2af (fun t =>
    t.readX 5 == 0xffffffffbbaa9988 && t.mem.read 0x1028 == 0x87 && t.mem.read 0x1029 == 0x96 && t.mem.read 0x102a == 0xaa && t.mem.read 0x102b == 0xbb && t.pc == 0x104) = true := by decide +kernel
/-- 1.6. -/
theorem test_amoxorD : after (small .rv64 [(7, 0x1028), (6, 0x100000f0f)] [] bytes 0) 0x2063b2af (fun t =>
    t.readX 5 == 0xffeeddccbbaa9988 && t.mem.read 0x1028 == 0x87 && t.mem.read 0x1029 == 0x96 && t.mem.read 0x102a == 0xaa && t.mem.read 0x102b == 0xbb && t.mem.read 0x102c == 0xcd && t.mem.read 0x102d == 0xdd && t.mem.read 0x102e == 0xee && t.mem.read 0x102f == 0xff && t.pc == 0x104) = true := by decide +kernel
/-- 1.6. -/
theorem test_amoandW : after (small .rv64 [(7, 0x1028), (6, 0x100000f0f)] [] bytes 0) 0x6063a2af (fun t =>
    t.readX 5 == 0xffffffffbbaa9988 && t.mem.read 0x1028 == 8 && t.mem.read 0x1029 == 9 && t.mem.read 0x102a == 0 && t.mem.read 0x102b == 0 && t.pc == 0x104) = true := by decide +kernel
/-- 1.6. -/
theorem test_amoandD : after (small .rv64 [(7, 0x1028), (6, 0x100000f0f)] [] bytes 0) 0x6063b2af (fun t =>
    t.readX 5 == 0xffeeddccbbaa9988 && t.mem.read 0x1028 == 8 && t.mem.read 0x1029 == 9 && t.mem.read 0x102a == 0 && t.mem.read 0x102b == 0 && t.mem.read 0x102c == 0 && t.mem.read 0x102d == 0 && t.mem.read 0x102e == 0 && t.mem.read 0x102f == 0 && t.pc == 0x104) = true := by decide +kernel
/-- 1.6. -/
theorem test_amoorW : after (small .rv64 [(7, 0x1028), (6, 0x100000f0f)] [] bytes 0) 0x4063a2af (fun t =>
    t.readX 5 == 0xffffffffbbaa9988 && t.mem.read 0x1028 == 0x8f && t.mem.read 0x1029 == 0x9f && t.mem.read 0x102a == 0xaa && t.mem.read 0x102b == 0xbb && t.pc == 0x104) = true := by decide +kernel
/-- 1.6. -/
theorem test_amoorD : after (small .rv64 [(7, 0x1028), (6, 0x100000f0f)] [] bytes 0) 0x4063b2af (fun t =>
    t.readX 5 == 0xffeeddccbbaa9988 && t.mem.read 0x1028 == 0x8f && t.mem.read 0x1029 == 0x9f && t.mem.read 0x102a == 0xaa && t.mem.read 0x102b == 0xbb && t.mem.read 0x102c == 0xcd && t.mem.read 0x102d == 0xdd && t.mem.read 0x102e == 0xee && t.mem.read 0x102f == 0xff && t.pc == 0x104) = true := by decide +kernel
/-- 2.7. -/
theorem test_amominW : after (small .rv32 [(7, 0x1028), (6, 1)] [] bytes 0) 0x8063a2af (fun t =>
    t.readX 5 == 0xbbaa9988 && t.mem.read 0x1028 == 0x88 && t.mem.read 0x1029 == 0x99 && t.mem.read 0x102a == 0xaa && t.mem.read 0x102b == 0xbb && t.pc == 0x104) = true := by decide +kernel
/-- 1.6. -/
theorem test_amominD : after (small .rv64 [(7, 0x1028), (6, 0x100000f0f)] [] bytes 0) 0x8063b2af (fun t =>
    t.readX 5 == 0xffeeddccbbaa9988 && t.mem.read 0x1028 == 0x88 && t.mem.read 0x1029 == 0x99 && t.mem.read 0x102a == 0xaa && t.mem.read 0x102b == 0xbb && t.mem.read 0x102c == 0xcc && t.mem.read 0x102d == 0xdd && t.mem.read 0x102e == 0xee && t.mem.read 0x102f == 0xff && t.pc == 0x104) = true := by decide +kernel
/-- 2.7. -/
theorem test_amomaxW : after (small .rv64 [(7, 0x1028), (6, 0xffffffff00000001)] [] bytes 0) 0xa063a2af (fun t =>
    t.readX 5 == 0xffffffffbbaa9988 && t.mem.read 0x1028 == 1 && t.mem.read 0x1029 == 0 && t.mem.read 0x102a == 0 && t.mem.read 0x102b == 0 && t.pc == 0x104) = true := by decide +kernel
/-- 1.6. -/
theorem test_amomaxD : after (small .rv64 [(7, 0x1028), (6, 0x100000f0f)] [] bytes 0) 0xa063b2af (fun t =>
    t.readX 5 == 0xffeeddccbbaa9988 && t.mem.read 0x1028 == 0xf && t.mem.read 0x1029 == 0xf && t.mem.read 0x102a == 0 && t.mem.read 0x102b == 0 && t.mem.read 0x102c == 1 && t.mem.read 0x102d == 0 && t.mem.read 0x102e == 0 && t.mem.read 0x102f == 0 && t.pc == 0x104) = true := by decide +kernel
/-- 2.7. -/
theorem test_amominuW : after (small .rv32 [(7, 0x1028), (6, 1)] [] bytes 0) 0xc063a2af (fun t =>
    t.readX 5 == 0xbbaa9988 && t.mem.read 0x1028 == 1 && t.mem.read 0x1029 == 0 && t.mem.read 0x102a == 0 && t.mem.read 0x102b == 0 && t.pc == 0x104) = true := by decide +kernel
/-- 1.6. -/
theorem test_amominuD : after (small .rv64 [(7, 0x1028), (6, 0x100000f0f)] [] bytes 0) 0xc063b2af (fun t =>
    t.readX 5 == 0xffeeddccbbaa9988 && t.mem.read 0x1028 == 0xf && t.mem.read 0x1029 == 0xf && t.mem.read 0x102a == 0 && t.mem.read 0x102b == 0 && t.mem.read 0x102c == 1 && t.mem.read 0x102d == 0 && t.mem.read 0x102e == 0 && t.mem.read 0x102f == 0 && t.pc == 0x104) = true := by decide +kernel
/-- 2.7. -/
theorem test_amomaxuW : after (small .rv32 [(7, 0x1028), (6, 1)] [] bytes 0) 0xe063a2af (fun t =>
    t.readX 5 == 0xbbaa9988 && t.mem.read 0x1028 == 0x88 && t.mem.read 0x1029 == 0x99 && t.mem.read 0x102a == 0xaa && t.mem.read 0x102b == 0xbb && t.pc == 0x104) = true := by decide +kernel
/-- 1.6. -/
theorem test_amomaxuD : after (small .rv64 [(7, 0x1028), (6, 0x100000f0f)] [] bytes 0) 0xe063b2af (fun t =>
    t.readX 5 == 0xffeeddccbbaa9988 && t.mem.read 0x1028 == 0x88 && t.mem.read 0x1029 == 0x99 && t.mem.read 0x102a == 0xaa && t.mem.read 0x102b == 0xbb && t.mem.read 0x102c == 0xcc && t.mem.read 0x102d == 0xdd && t.mem.read 0x102e == 0xee && t.mem.read 0x102f == 0xff && t.pc == 0x104) = true := by decide +kernel
/-- 1.7. -/
theorem test_flw : after (small .rv64 [(6, 0x1000)] [] bytes 0) 0x2832287 (fun t =>
    t.readF 5 == 0xffffffffbbaa9988 && t.fcsr == 0 && t.pc == 0x104) = true := by decide +kernel
/-- 2.9. -/
theorem test_fsw : after (small .rv64 [(6, 0x1000)] [(5, 0x102030405060708)] [] 0) 0x2532427 (fun t =>
    t.mem.read 0x1028 == 8 && t.mem.read 0x1029 == 7 && t.mem.read 0x102a == 6 && t.mem.read 0x102b == 5 && t.fcsr == 0 && t.pc == 0x104) = true := by decide +kernel
/-- 2.9. -/
theorem test_fmaddS : after (small .rv64 [] [(6, 0xffffffff40200000), (7, 0xffffffff3dcccccd), (8, 0xffffffff3f800000)] [] 0) 0x407372c3 (fun t =>
    t.readF 5 == 0xffffffff3fa00000 && t.fcsr == 1 && t.pc == 0x104) = true := by decide +kernel
/-- 2.10. -/
theorem test_fmsubS : after (small .rv64 [] [(6, 0xffffffff40000000), (7, 0xffffffff40400000), (8, 0xffffffff3f800000)] [] 0) 0x407372c7 (fun t =>
    t.readF 5 == 0xffffffff40a00000 && t.fcsr == 0 && t.pc == 0x104) = true := by decide +kernel
/-- 2.10. -/
theorem test_fnmsubS : after (small .rv64 [] [(6, 0xffffffff40000000), (7, 0xffffffff40400000), (8, 0xffffffff3f800000)] [] 0) 0x407372cb (fun t =>
    t.readF 5 == 0xffffffffc0a00000 && t.fcsr == 0 && t.pc == 0x104) = true := by decide +kernel
/-- 2.10. -/
theorem test_fnmaddS : after (small .rv64 [] [(6, 0xffffffff40000000), (7, 0xffffffff40400000), (8, 0xffffffff3f800000)] [] 0) 0x407372cf (fun t =>
    t.readF 5 == 0xffffffffc0e00000 && t.fcsr == 0 && t.pc == 0x104) = true := by decide +kernel
/-- 2.9. -/
theorem test_faddS : after (small .rv64 [] [(6, 0xffffffff40200000), (7, 0xffffffff3dcccccd)] [] 0) 0x7332d3 (fun t =>
    t.readF 5 == 0xffffffff40266667 && t.fcsr == 1 && t.pc == 0x104) = true := by decide +kernel
/-- 1.7. -/
theorem test_fsubS : after (small .rv64 [] [(6, 0xffffffff40200000), (7, 0xffffffff3dcccccd)] [] 0) 0x87372d3 (fun t =>
    t.readF 5 == 0xffffffff4019999a && t.fcsr == 1 && t.pc == 0x104) = true := by decide +kernel
/-- 1.7. -/
theorem test_fmulS : after (small .rv64 [] [(6, 0xffffffff40200000), (7, 0xffffffff3dcccccd)] [] 0) 0x107372d3 (fun t =>
    t.readF 5 == 0xffffffff3e800000 && t.fcsr == 1 && t.pc == 0x104) = true := by decide +kernel
/-- 1.7. -/
theorem test_fdivS : after (small .rv64 [] [(6, 0xffffffff40200000), (7, 0xffffffff3dcccccd)] [] 0) 0x187372d3 (fun t =>
    t.readF 5 == 0xffffffff41c80000 && t.fcsr == 1 && t.pc == 0x104) = true := by decide +kernel
/-- 1.7. -/
theorem test_fsqrtS : after (small .rv64 [] [(6, 0xffffffff40200000)] [] 0) 0x580372d3 (fun t =>
    t.readF 5 == 0xffffffff3fca62c2 && t.fcsr == 1 && t.pc == 0x104) = true := by decide +kernel
/-- 2.9. -/
theorem test_fsgnjS : after (small .rv64 [] [(6, 0xffffffff40200000), (7, 0xffffffffbdcccccd)] [] 0) 0x207302d3 (fun t =>
    t.readF 5 == 0xffffffffc0200000 && t.fcsr == 0 && t.pc == 0x104) = true := by decide +kernel
/-- 2.9. -/
theorem test_fsgnjnS : after (small .rv64 [] [(6, 0xffffffff40200000), (7, 0xffffffffbdcccccd)] [] 0) 0x207312d3 (fun t =>
    t.readF 5 == 0xffffffff40200000 && t.fcsr == 0 && t.pc == 0x104) = true := by decide +kernel
/-- 2.9. -/
theorem test_fsgnjxS : after (small .rv64 [] [(6, 0xffffffff40200000), (7, 0xffffffffbdcccccd)] [] 0) 0x207322d3 (fun t =>
    t.readF 5 == 0xffffffffc0200000 && t.fcsr == 0 && t.pc == 0x104) = true := by decide +kernel
/-- 2.10. -/
theorem test_fminS : after (small .rv64 [] [(6, 0xffffffff7fa00000), (7, 0xffffffff3f800000)] [] 0) 0x287302d3 (fun t =>
    t.readF 5 == 0xffffffff3f800000 && t.fcsr == 0x10 && t.pc == 0x104) = true := by decide +kernel
/-- 2.10. -/
theorem test_fmaxS : after (small .rv64 [] [(6, 0xffffffff7fa00000), (7, 0xffffffff3f800000)] [] 0) 0x287312d3 (fun t =>
    t.readF 5 == 0xffffffff3f800000 && t.fcsr == 0x10 && t.pc == 0x104) = true := by decide +kernel
/-- 2.9. -/
theorem test_fcvtWS : after (small .rv64 [] [(6, 0x40200000)] [] 0) 0xc00372d3 (fun t =>
    t.readX 5 == 0x7fffffff && t.fcsr == 0x10 && t.pc == 0x104) = true := by decide +kernel
/-- 2.9. -/
theorem test_fcvtWuS : after (small .rv64 [] [(6, 0xffffffff40200000)] [] 0) 0xc01312d3 (fun t =>
    t.readX 5 == 2 && t.fcsr == 1 && t.pc == 0x104) = true := by decide +kernel
/-- 2.9. -/
theorem test_fmvXW : after (small .rv64 [] [(6, 0xc0200000)] [] 0) 0xe00302d3 (fun t =>
    t.readX 5 == 0xffffffffc0200000 && t.fcsr == 0 && t.pc == 0x104) = true := by decide +kernel
/-- 2.9. -/
theorem test_feqS : after (small .rv64 [] [(6, 0xffffffff7fa00000), (7, 0xffffffff3f800000)] [] 0) 0xa0732053 (fun t =>
    t.fcsr == 0x10 && t.pc == 0x104) = true := by decide +kernel
/-- 2.9. -/
theorem test_fltS : after (small .rv64 [] [(6, 0x40200000), (7, 0xffffffff40400000)] [] 0) 0xa07312d3 (fun t =>
    t.readX 5 == 0 && t.fcsr == 0x10 && t.pc == 0x104) = true := by decide +kernel
/-- 2.10. -/
theorem test_fleS : after (small .rv64 [] [(6, 0xffffffff7fc00000), (7, 0xffffffff7fc00000)] [] 0) 0xa07302d3 (fun t =>
    t.readX 5 == 0 && t.fcsr == 0x10 && t.pc == 0x104) = true := by decide +kernel
/-- 2.9. -/
theorem test_fclassS : after (small .rv64 [] [(6, 0x40200000)] [] 0) 0xe00312d3 (fun t =>
    t.readX 5 == 0x200 && t.fcsr == 0 && t.pc == 0x104) = true := by decide +kernel
/-- 1.7. -/
theorem test_fcvtSW : after (small .rv64 [(6, 0xfffffffffffffff0)] [] [] 0) 0xd00372d3 (fun t =>
    t.readF 5 == 0xffffffffc1800000 && t.fcsr == 0 && t.pc == 0x104) = true := by decide +kernel
/-- 2.11. -/
theorem test_fcvtSWu : after (small .rv64 [(6, 0xffffffff)] [] [] 0) 0xd01372d3 (fun t =>
    t.readF 5 == 0xffffffff4f800000 && t.fcsr == 1 && t.pc == 0x104) = true := by decide +kernel
/-- 2.9. -/
theorem test_fmvWX : after (small .rv64 [(6, 0x1234567840200000)] [] [] 0) 0xf00302d3 (fun t =>
    t.readF 5 == 0xffffffff40200000 && t.fcsr == 0 && t.pc == 0x104) = true := by decide +kernel
/-- 2.11. -/
theorem test_fcvtLS : after (small .rv64 [] [(6, 0xffffffffbfc00000)] [] 0x40) 0xc02372d3 (fun t =>
    t.readX 5 == 0xfffffffffffffffe && t.fcsr == 0x41 && t.pc == 0x104) = true := by decide +kernel
/-- 2.11. -/
theorem test_fcvtLuS : after (small .rv64 [] [(6, 0xffffffff5f800000)] [] 0) 0xc03372d3 (fun t =>
    t.readX 5 == 0xffffffffffffffff && t.fcsr == 0x10 && t.pc == 0x104) = true := by decide +kernel
/-- 2.11. -/
theorem test_fcvtSL : after (small .rv64 [(6, 0x7fffffffffffffff)] [] [] 0) 0xd02372d3 (fun t =>
    t.readF 5 == 0xffffffff5f000000 && t.fcsr == 1 && t.pc == 0x104) = true := by decide +kernel
/-- 2.11. -/
theorem test_fcvtSLu : after (small .rv64 [(6, 0xffffffffffffffff)] [] [] 0x20) 0xd03372d3 (fun t =>
    t.readF 5 == 0xffffffff5f7fffff && t.fcsr == 0x21 && t.pc == 0x104) = true := by decide +kernel
/-- 1.7. -/
theorem test_fld : after (small .rv64 [(6, 0x1000)] [] bytes 0) 0x2833287 (fun t =>
    t.readF 5 == 0xffeeddccbbaa9988 && t.fcsr == 0 && t.pc == 0x104) = true := by decide +kernel
/-- 2.9. -/
theorem test_fsd : after (small .rv32 [(6, 0x1000)] [(5, 0x102030405060708)] [] 0) 0x2533427 (fun t =>
    t.mem.read 0x1028 == 8 && t.mem.read 0x1029 == 7 && t.mem.read 0x102a == 6 && t.mem.read 0x102b == 5 && t.mem.read 0x102c == 4 && t.mem.read 0x102d == 3 && t.mem.read 0x102e == 2 && t.mem.read 0x102f == 1 && t.fcsr == 0 && t.pc == 0x104) = true := by decide +kernel
/-- 2.9. -/
theorem test_fmaddD : after (small .rv64 [] [(6, 0x4004000000000000), (7, 0x3fb999999999999a), (8, 0x3ff0000000000000)] [] 0) 0x427372c3 (fun t =>
    t.readF 5 == 0x3ff4000000000000 && t.fcsr == 1 && t.pc == 0x104) = true := by decide +kernel
/-- R468. -/
theorem test_fmsubD : after (small .rv64 [] [(6, 0x4000000000000000), (7, 0x4008000000000000), (8, 0x3ff0000000000000)] [] 0) 0x427372c7 (fun t =>
    t.readF 5 == 0x4014000000000000 && t.fcsr == 0 && t.pc == 0x104) = true := by decide +kernel
/-- R469. -/
theorem test_fnmsubD : after (small .rv64 [] [(6, 0x4000000000000000), (7, 0x4008000000000000), (8, 0x3ff0000000000000)] [] 0) 0x427372cb (fun t =>
    t.readF 5 == 0xc014000000000000 && t.fcsr == 0 && t.pc == 0x104) = true := by decide +kernel
/-- R470. -/
theorem test_fnmaddD : after (small .rv64 [] [(6, 0x4000000000000000), (7, 0x4008000000000000), (8, 0x3ff0000000000000)] [] 0) 0x427372cf (fun t =>
    t.readF 5 == 0xc01c000000000000 && t.fcsr == 0 && t.pc == 0x104) = true := by decide +kernel
/-- 2.9. -/
theorem test_faddD : after (small .rv64 [] [(6, 0x4004000000000000), (7, 0x3fb999999999999a)] [] 0) 0x27322d3 (fun t =>
    t.readF 5 == 0x4004cccccccccccc && t.fcsr == 1 && t.pc == 0x104) = true := by decide +kernel
/-- 1.7. -/
theorem test_fsubD : after (small .rv64 [] [(6, 0x4004000000000000), (7, 0x3fb999999999999a)] [] 0) 0xa7372d3 (fun t =>
    t.readF 5 == 0x4003333333333333 && t.fcsr == 1 && t.pc == 0x104) = true := by decide +kernel
/-- 1.7. -/
theorem test_fmulD : after (small .rv64 [] [(6, 0x4004000000000000), (7, 0x3fb999999999999a)] [] 0) 0x127372d3 (fun t =>
    t.readF 5 == 0x3fd0000000000000 && t.fcsr == 1 && t.pc == 0x104) = true := by decide +kernel
/-- 1.7. -/
theorem test_fdivD : after (small .rv64 [] [(6, 0x4004000000000000), (7, 0x3fb999999999999a)] [] 0) 0x1a7372d3 (fun t =>
    t.readF 5 == 0x4039000000000000 && t.fcsr == 1 && t.pc == 0x104) = true := by decide +kernel
/-- 1.7. -/
theorem test_fsqrtD : after (small .rv64 [] [(6, 0x4004000000000000)] [] 0) 0x5a0372d3 (fun t =>
    t.readF 5 == 0x3ff94c583ada5b53 && t.fcsr == 1 && t.pc == 0x104) = true := by decide +kernel
/-- 2.9. -/
theorem test_fsgnjD : after (small .rv64 [] [(6, 0xffffffff40200000)] [] 0) 0x226302d3 (fun t =>
    t.readF 5 == 0xffffffff40200000 && t.fcsr == 0 && t.pc == 0x104) = true := by decide +kernel
/-- R472. -/
theorem test_fsgnjnD : after (small .rv64 [] [(6, 0x3ff0000000000000), (7, 0x3ff0000000000000)] [] 0) 0x227312d3 (fun t =>
    t.readF 5 == 0xbff0000000000000 && t.fcsr == 0 && t.pc == 0x104) = true := by decide +kernel
/-- R473. -/
theorem test_fsgnjxD : after (small .rv64 [] [(6, 0xbff0000000000000), (7, 0xbff0000000000000)] [] 0) 0x227322d3 (fun t =>
    t.readF 5 == 0x3ff0000000000000 && t.fcsr == 0 && t.pc == 0x104) = true := by decide +kernel
/-- 2.12. -/
theorem test_fminD : after (small .rv64 [] [(6, 0x8000000000000000), (7, 0)] [] 0) 0x2a7302d3 (fun t =>
    t.readF 5 == 0x8000000000000000 && t.fcsr == 0 && t.pc == 0x104) = true := by decide +kernel
/-- 2.12. -/
theorem test_fmaxD : after (small .rv64 [] [(6, 0x7ff4000000000000), (7, 0x3ff0000000000000)] [] 0) 0x2a7312d3 (fun t =>
    t.readF 5 == 0x3ff0000000000000 && t.fcsr == 0x10 && t.pc == 0x104) = true := by decide +kernel
/-- 2.11. -/
theorem test_fcvtSD : after (small .rv64 [] [(6, 0x3fb999999999999a)] [] 0x20) 0x401372d3 (fun t =>
    t.readF 5 == 0xffffffff3dcccccc && t.fcsr == 0x21 && t.pc == 0x104) = true := by decide +kernel
/-- 2.9. -/
theorem test_fcvtDS : after (small .rv64 [] [(6, 0x40200000)] [] 0) 0x420302d3 (fun t =>
    t.readF 5 == 0x7ff8000000000000 && t.fcsr == 0 && t.pc == 0x104) = true := by decide +kernel
/-- 1.7. -/
theorem test_feqD : after (small .rv64 [] [(6, 0x4004000000000000), (7, 0x3fb999999999999a)] [] 0) 0xa27322d3 (fun t =>
    t.readX 5 == 0 && t.fcsr == 0 && t.pc == 0x104) = true := by decide +kernel
/-- 1.7. -/
theorem test_fltD : after (small .rv64 [] [(6, 0x4004000000000000), (7, 0x3fb999999999999a)] [] 0) 0xa27312d3 (fun t =>
    t.readX 5 == 0 && t.fcsr == 0 && t.pc == 0x104) = true := by decide +kernel
/-- 2.12. -/
theorem test_fleD : after (small .rv64 [] [(6, 0x7ff8000000000000), (7, 0x3ff0000000000000)] [] 0) 0xa27302d3 (fun t =>
    t.readX 5 == 0 && t.fcsr == 0x10 && t.pc == 0x104) = true := by decide +kernel
/-- 2.9. -/
theorem test_fclassD : after (small .rv64 [] [(6, 0xffffffff40200000)] [] 0) 0xe20312d3 (fun t =>
    t.readX 5 == 0x200 && t.fcsr == 0 && t.pc == 0x104) = true := by decide +kernel
/-- 1.7. -/
theorem test_fcvtWD : after (small .rv64 [] [(6, 0x4004000000000000)] [] 0) 0xc20372d3 (fun t =>
    t.readX 5 == 2 && t.fcsr == 1 && t.pc == 0x104) = true := by decide +kernel
/-- 2.12. -/
theorem test_fcvtWuD : after (small .rv64 [] [(6, 0x41efffffffe00000)] [] 0) 0xc21372d3 (fun t =>
    t.readX 5 == 0xffffffffffffffff && t.fcsr == 0 && t.pc == 0x104) = true := by decide +kernel
/-- 1.7. -/
theorem test_fcvtDW : after (small .rv64 [(6, 0xfffffffffffffff0)] [] [] 0) 0xd20302d3 (fun t =>
    t.readF 5 == 0xc030000000000000 && t.fcsr == 0 && t.pc == 0x104) = true := by decide +kernel
/-- 2.11. -/
theorem test_fcvtDWu : after (small .rv64 [(6, 0xffffffff)] [] [] 0) 0xd21302d3 (fun t =>
    t.readF 5 == 0x41efffffffe00000 && t.fcsr == 0 && t.pc == 0x104) = true := by decide +kernel
/-- 2.12. -/
theorem test_fcvtLD : after (small .rv64 [] [(6, 0x43e0000000000000)] [] 0) 0xc22372d3 (fun t =>
    t.readX 5 == 0x7fffffffffffffff && t.fcsr == 0x10 && t.pc == 0x104) = true := by decide +kernel
/-- 2.9. -/
theorem test_fcvtLuD : after (small .rv64 [] [(6, 0x4004000000000000)] [] 0) 0xc23312d3 (fun t =>
    t.readX 5 == 2 && t.fcsr == 1 && t.pc == 0x104) = true := by decide +kernel
/-- 2.9. -/
theorem test_fmvXD : after (small .rv64 [] [(6, 0xffffffff40200000)] [] 0) 0xe20302d3 (fun t =>
    t.readX 5 == 0xffffffff40200000 && t.fcsr == 0 && t.pc == 0x104) = true := by decide +kernel
/-- 2.11. -/
theorem test_fcvtDL : after (small .rv64 [(6, 0x7fffffffffffffff)] [] [] 0x20) 0xd22372d3 (fun t =>
    t.readF 5 == 0x43dfffffffffffff && t.fcsr == 0x21 && t.pc == 0x104) = true := by decide +kernel
/-- 2.11. -/
theorem test_fcvtDLu : after (small .rv64 [(6, 0xffffffffffffffff)] [] [] 0) 0xd23372d3 (fun t =>
    t.readF 5 == 0x43f0000000000000 && t.fcsr == 1 && t.pc == 0x104) = true := by decide +kernel
/-- 2.9. -/
theorem test_fmvDX : after (small .rv64 [(6, 0x7ff4000000000001)] [] [] 0) 0xf20302d3 (fun t =>
    t.readF 5 == 0x7ff4000000000001 && t.fcsr == 0 && t.pc == 0x104) = true := by decide +kernel
/-- 2.8. -/
theorem test_csrrw : after (small .rv32 [(5, 0x123)] [] [] 0x45) 0x3292f3 (fun t =>
    t.readX 5 == 0x45 && t.fcsr == 0x23 && t.pc == 0x104) = true := by decide +kernel
/-- 2.8. -/
theorem test_csrrs : after (small .rv32 [] [] [] 0x7f) 0x2022f3 (fun t =>
    t.readX 5 == 3 && t.fcsr == 0x7f && t.pc == 0x104) = true := by decide +kernel
/-- 2.8. -/
theorem test_csrrc : after (small .rv32 [(6, 5)] [] [] 0xff) 0x2332f3 (fun t =>
    t.readX 5 == 7 && t.fcsr == 0x5f && t.pc == 0x104) = true := by decide +kernel
/-- 2.8. -/
theorem test_csrrwi : after (small .rv32 [] [] [] 0) 0x2fd2f3 (fun t =>
    t.readX 5 == 0 && t.fcsr == 0xe0 && t.pc == 0x104) = true := by decide +kernel
/-- 2.8. -/
theorem test_csrrsi : after (small .rv32 [] [] [] 0x1f) 0x1062f3 (fun t =>
    t.readX 5 == 0x1f && t.fcsr == 0x1f && t.pc == 0x104) = true := by decide +kernel
/-- 2.8. -/
theorem test_csrrci : after (small .rv32 [] [] [] 0xff) 0x1ff2f3 (fun t =>
    t.readX 5 == 0x1f && t.fcsr == 0xe0 && t.pc == 0x104) = true := by decide +kernel

/-- A fetch just past the end of memory (20_memory.md R78, 60_exceptions.md R562). -/
theorem test_fetch_outside : step { small .rv64 [] [] [] 0 with pc := 0x100000 } =
    .fault (.trap .instructionAccessFault 0x100000) := by rfl
/-- The first step from reset with nothing loaded fetches a zero word, which is illegal (30_encoding.md R132; log entry 13). -/
theorem test_reset_runs_zero_word : step State.reset = .fault (.trap .illegalInstruction 0) := by rfl
/-- A store to code is seen by fetches of the hart after fence.i only: the byte stays in doubt, then is exact
(20_memory.md R101). -/
theorem test_stale : after (small .rv64 [(5, 0xff)] [] [] 0) 0x10500423 (fun t => t.stale == [(0x108, 0)] &&
    t.syncFetch.fetchByte 0x108 0 == 0xff) = true := by decide +kernel

/-! ### Witnesses: concrete states and operands that meet the hypotheses of each statement, clause by clause -/

/-- 4 KiB of memory at 0x1000, all parameters in their domains, x6 = a. -/
def at6 (xl : XLen) (a : Word) : State :=
  (State.resetWith { xlen := xl, memBase := 0x1000, memSize := 0x1000, resetPc := 0x1000, resGrain := 8 } { cells := [] }).writeX 6 a

theorem witness_parameters : (at6 .rv32 0).params.legal = true ∧ (at6 .rv64 0).params.legal = true := by decide +kernel

/-- The three cases of an access of n bytes, each at its boundaries: misaligned below the end, aligned just past either end,
aligned at the first and at the last place. -/
def ThreeCases (xl : XLen) (n : Nat) (addr : State → Word) : Prop :=
  ((n = 1 ∨ (addr (at6 xl 0x1fff)).toNat % n ≠ 0) ∧
   ((addr (at6 xl 0x2000)).toNat % n = 0 ∧ ¬ (at6 xl 0x2000).Inside (addr (at6 xl 0x2000)) n) ∧
   ((addr (at6 xl 0xff8)).toNat % n = 0 ∧ ¬ (at6 xl 0xff8).Inside (addr (at6 xl 0xff8)) n) ∧
   ((addr (at6 xl 0x1000)).toNat % n = 0 ∧ (at6 xl 0x1000).Inside (addr (at6 xl 0x1000)) n) ∧
   (addr (at6 xl (0x2000 - BitVec.ofNat 64 n))).toNat % n = 0 ∧
     (at6 xl (0x2000 - BitVec.ofNat 64 n)).Inside (addr (at6 xl (0x2000 - BitVec.ofNat 64 n))) n)

theorem three_cases_displaced : ∀ xl ∈ [XLen.rv32, .rv64], ∀ n ∈ [1, 2, 4, 8], ThreeCases xl n (fun s => s.effectiveAddr 6 0) := by
  unfold ThreeCases State.Inside; decide +kernel
theorem three_cases_direct : ∀ xl ∈ [XLen.rv32, .rv64], ∀ n ∈ [4, 8], ThreeCases xl n (fun s => s.readX 6) := by
  unfold ThreeCases State.Inside; decide +kernel
/-- Both widths: the hypotheses of Only64. -/
theorem both_widths : (at6 .rv64 0).xlen = .rv64 ∧ (at6 .rv32 0).xlen = .rv32 := by decide

theorem witness_WordArithmeticSignExtends : (at6 .rv64 0).xlen = .rv64 ∧ (at6 .rv32 0).xlen = .rv32 := both_widths
theorem witness_WordShiftsSignExtend : (at6 .rv64 0).xlen = .rv64 ∧ (at6 .rv32 0).xlen = .rv32 := both_widths
theorem witness_WordMultiplyDivideSignExtend : (at6 .rv64 0).xlen = .rv64 ∧ (at6 .rv32 0).xlen = .rv32 := both_widths
theorem witness_MovesCopyBits : (at6 .rv64 0).xlen = .rv64 ∧ (at6 .rv32 0).xlen = .rv32 := both_widths
theorem witness_LoadsGiveTheBytesInMemory : ((at6 .rv64 0).xlen = .rv64 ∧ (at6 .rv32 0).xlen = .rv32) ∧
    ∀ xl ∈ [XLen.rv32, .rv64], ∀ n ∈ [1, 2, 4, 8], ThreeCases xl n (fun s => s.effectiveAddr 6 0) :=
  ⟨both_widths, three_cases_displaced⟩
theorem witness_StoresWriteTheirBytesOnly : ((at6 .rv64 0).xlen = .rv64 ∧ (at6 .rv32 0).xlen = .rv32) ∧
    ∀ xl ∈ [XLen.rv32, .rv64], ∀ n ∈ [1, 2, 4, 8], ThreeCases xl n (fun s => s.effectiveAddr 6 0) :=
  ⟨both_widths, three_cases_displaced⟩
theorem witness_FloatLoadsAndStoresMoveBits : ∀ xl ∈ [XLen.rv32, .rv64], ∀ n ∈ [1, 2, 4, 8],
    ThreeCases xl n (fun s => s.effectiveAddr 6 0) := three_cases_displaced
theorem witness_LoadReservedReservesAndLoads : ((at6 .rv64 0).xlen = .rv64 ∧ (at6 .rv32 0).xlen = .rv32) ∧
    ∀ xl ∈ [XLen.rv32, .rv64], ∀ n ∈ [4, 8], ThreeCases xl n (fun s => s.readX 6) := ⟨both_widths, three_cases_direct⟩
theorem witness_WordAtomicsUpdateMemory : ∀ xl ∈ [XLen.rv32, .rv64], ∀ n ∈ [4, 8], ThreeCases xl n (fun s => s.readX 6) :=
  three_cases_direct
theorem witness_DoubleAtomicsUpdateMemory : ((at6 .rv64 0).xlen = .rv64 ∧ (at6 .rv32 0).xlen = .rv32) ∧
    ∀ xl ∈ [XLen.rv32, .rv64], ∀ n ∈ [4, 8], ThreeCases xl n (fun s => s.readX 6) := ⟨both_widths, three_cases_direct⟩

/-- Eligible at both ends of the block; not eligible with no reservation and just past the block; the accesses themselves
as for the other atomics. -/
theorem witness_StoreConditionalSucceedsOnlyIfEligible :
    ((at6 .rv64 0x1ff8).reserve 0x1ff8 .double).Eligible 0x1ff8 8 ∧ ((at6 .rv64 0x1ffc).reserve 0x1ff8 .double).Eligible 0x1ffc 4 ∧
    ((at6 .rv32 0x1000).reserve 0x1000 .word).Eligible 0x1000 4 ∧ ¬ (at6 .rv64 0x1000).Eligible 0x1000 4 ∧
    ¬ ((at6 .rv64 0x1008).reserve 0x1000 .word).Eligible 0x1008 4 ∧
    (∀ xl ∈ [XLen.rv32, .rv64], ∀ n ∈ [4, 8], ThreeCases xl n (fun s => s.readX 6)) ∧
    (at6 .rv64 0).xlen = .rv64 ∧ (at6 .rv32 0).xlen = .rv32 := by
  refine ⟨⟨_, rfl, by decide, by decide⟩, ⟨_, rfl, by decide, by decide⟩, ⟨_, rfl, by decide, by decide⟩, ?_, ?_,
    three_cases_direct, both_widths⟩
  · rintro ⟨r, h, -⟩; cases h
  · rintro ⟨r, h, -, h2⟩; cases h; revert h2; decide

/-- A shamt at either side of each bound. -/
theorem witness_ShiftsMultiplyAndDivide : (31#6).toNat < (at6 .rv32 0).xlen.bits ∧ (63#6).toNat < (at6 .rv64 0).xlen.bits ∧
    ¬ (32#6).toNat < (at6 .rv32 0).xlen.bits ∧ ¬ (63#6).toNat < (at6 .rv32 0).xlen.bits := by decide

/-- For each condition a state where it holds and one where it does not; targets that are and are not multiples of 4; an even
offset. -/
theorem witness_BranchesGoToTheirTargetOrOn :
    ((at6 .rv64 0).uReg 6 = (at6 .rv64 0).uReg 7 ∧ ¬ (at6 .rv64 1).uReg 6 = (at6 .rv64 1).uReg 7) ∧
    ((at6 .rv32 (-1)).sReg 6 < (at6 .rv32 (-1)).sReg 0 ∧ ¬ (at6 .rv32 (-1)).sReg 0 < (at6 .rv32 (-1)).sReg 6) ∧
    ((at6 .rv64 (-1)).sReg 6 ≤ (at6 .rv64 (-1)).sReg 0 ∧ ¬ (at6 .rv64 (-1)).sReg 0 ≤ (at6 .rv64 (-1)).sReg 6) ∧
    ((at6 .rv32 (-1)).uReg 0 < (at6 .rv32 (-1)).uReg 6 ∧ ¬ (at6 .rv32 (-1)).uReg 6 < (at6 .rv32 (-1)).uReg 0) ∧
    ((at6 .rv64 (-1)).uReg 0 ≤ (at6 .rv64 (-1)).uReg 6 ∧ ¬ (at6 .rv64 (-1)).uReg 6 ≤ (at6 .rv64 (-1)).uReg 0) ∧
    ((at6 .rv64 0).pcInt + (-4096 : Off13).toInt) % (at6 .rv64 0).modulus % 4 = 0 ∧
    ((at6 .rv64 0).pcInt + (4094 : Off13).toInt) % (at6 .rv64 0).modulus % 4 ≠ 0 ∧ (4094 : Off13).getLsbD 0 = false := by
  decide +kernel
theorem witness_JumpsLinkAndTransfer :
    ((at6 .rv32 0).pcInt + (-1048576 : Off21).toInt) % (at6 .rv32 0).modulus % 4 = 0 ∧
    ((at6 .rv32 0).pcInt + (1048574 : Off21).toInt) % (at6 .rv32 0).modulus % 4 ≠ 0 ∧ (1048574 : Off21).getLsbD 0 = false ∧
    ((at6 .rv64 1).uReg 6 + (2047 : Imm12).toInt) % (at6 .rv64 1).modulus / 2 * 2 % 4 = 0 ∧
    ((at6 .rv64 0).uReg 6 + (-2048 : Imm12).toInt) % (at6 .rv64 0).modulus / 2 * 2 % 4 = 0 ∧
    ((at6 .rv64 2).uReg 6 + (1 : Imm12).toInt) % (at6 .rv64 2).modulus / 2 * 2 % 4 ≠ 0 := by decide +kernel

/-- The least and the greatest operands of three bits, a zero divisor and the overflow among them. -/
theorem witness_DivisionIdentityHoldsAlways : (1 : Nat) ≤ 3 ∧
    (-(2 : Int) ^ (3 - 1) ≤ -4 ∧ (-4 : Int) < 2 ^ (3 - 1)) ∧ (-(2 : Int) ^ (3 - 1) ≤ -1 ∧ (-1 : Int) < 2 ^ (3 - 1) ∧ (-1 : Int) ≠ 0) ∧
    (-(2 : Int) ^ (3 - 1) ≤ 0 ∧ (0 : Int) < 2 ^ (3 - 1)) ∧ (7 : Nat) < 2 ^ 3 ∧ (7 : Nat) ≠ 0 := by decide

/-- Every mode is selected statically and by frm; 101 and 110 select none, and 111 none with frm = 101. -/
theorem modes_selected : (∀ m : RMode, ∀ frm : BitVec 3, Selects m.code frm m) ∧ (∀ m : RMode, Selects 0b111 m.code m) ∧
    (∀ m : RMode, ¬ Selects 0b101 0 m) ∧ (∀ m : RMode, ¬ Selects 0b110 0 m) ∧ (∀ m : RMode, ¬ Selects 0b111 0b101 m) ∧
    ∀ m : RMode, { at6 .rv64 0 with fcsr := m.code ++ 0#5 }.frm = m.code := by
  refine ⟨fun m frm => .inl rfl, fun m => .inr ⟨rfl, rfl⟩, ?_, ?_, ?_, ?_⟩ <;> intro m <;> cases m <;> first | decide | (unfold Selects; decide)
theorem witness_RoundingArithmeticWritesResultAndFlags : (∀ m : RMode, Selects m.code 0 m) ∧ (∀ m : RMode, Selects 0b111 m.code m) ∧
    ∀ m : RMode, ¬ Selects 0b111 0b101 m := ⟨fun m => modes_selected.1 m 0, modes_selected.2.1, modes_selected.2.2.2.2.1⟩
theorem witness_SquareRootAndFormatConversionWriteResultAndFlags : (∀ m : RMode, Selects m.code 0 m) ∧
    ∀ m : RMode, ¬ Selects 0b101 0 m := ⟨fun m => modes_selected.1 m 0, modes_selected.2.2.1⟩
theorem witness_FusedMultiplyAddWritesResultAndFlags : (∀ m : RMode, Selects m.code 0 m) ∧
    ∀ m : RMode, ¬ Selects 0b101 0 m := ⟨fun m => modes_selected.1 m 0, modes_selected.2.2.1⟩
theorem witness_FloatToIntegerWritesResultAndFlags : ((at6 .rv64 0).xlen = .rv64 ∧ (at6 .rv32 0).xlen = .rv32) ∧
    (∀ m : RMode, Selects m.code 0 m) ∧ ∀ m : RMode, ¬ Selects 0b110 0 m :=
  ⟨both_widths, fun m => modes_selected.1 m 0, modes_selected.2.2.2.1⟩
theorem witness_IntegerToFloatRoundsTheInteger : ((at6 .rv64 0).xlen = .rv64 ∧ (at6 .rv32 0).xlen = .rv32) ∧
    ((∀ m : RMode, Selects m.code 0 m) ∧ ∀ m : RMode, ¬ Selects 0b110 0 m) ∧
    (-(2 : Int) ^ 31 ≤ -2147483648 ∧ (4294967295 : Int) < 2 ^ 32) :=
  ⟨both_widths, ⟨fun m => modes_selected.1 m 0, modes_selected.2.2.2.1⟩, by decide⟩

/-- A CSR address that is not implemented, the three that are; a source that is 0 and one that is not. -/
theorem witness_CsrInstructionsReadAndWrite : ((0xc00 : CsrAddr) ≠ 0x001 ∧ (0xc00 : CsrAddr) ≠ 0x002 ∧ (0xc00 : CsrAddr) ≠ 0x003) ∧
    ((4 : CsrAddr) ≠ 0x001 ∧ (4 : CsrAddr) ≠ 0x002 ∧ (4 : CsrAddr) ≠ 0x003) ∧
    ((3 : CsrAddr) = 0x001 ∨ (3 : CsrAddr) = 0x002 ∨ (3 : CsrAddr) = 0x003) ∧ (31 : XReg) ≠ 0 ∧ ¬ (0 : XReg) ≠ 0 := by decide

theorem witness_SinglesAreBoxed : (0xffffffff3f800000#64).toNat / 2 ^ 32 = 0xffffffff ∧
    (0x3ff0000000000000#64).toNat / 2 ^ 32 ≠ 0xffffffff := by decide
/-- A signed zero, a number, the infinities, a signaling and a quiet NaN, of S. -/
theorem witness_patterns : isFinite .single 0x3f800000#32 ∧ isFinite .single 0x7f7fffff#32 ∧ isFinite .single 0x00000001#32 ∧
    isFinite .single 0x80000000#32 ∧ isZero .single 0x80000000#32 = true ∧ isZero .single 0x00000001#32 = false ∧
    isInf .single 0x7f800000#32 = true ∧ isInf .single 0xff800000#32 = true ∧ signOf .single 0xff800000#32 = true ∧
    isSNaN .single 0x7fa00000#32 = true ∧ isNaN .single 0x7fc00000#32 = true ∧ isSNaN .single 0x7fc00000#32 = false := by
  unfold isFinite; decide
theorem witness_RoundDependsOnTheValueOnly : 0 < (⟨1, 2⟩ : Frac).den ∧ 0 < (⟨3, 6⟩ : Frac).den ∧
    (⟨1, 2⟩ : Frac).toRat = (⟨3, 6⟩ : Frac).toRat := by unfold Frac.toRat; norm_num
theorem witness_RepresentableValuesRoundToThemselves : isFinite .single 0x00000001#32 ∧ isZero .single 0x00000001#32 = false ∧
    isFinite .double 0xffefffffffffffff#64 ∧ isZero .double 0xffefffffffffffff#64 = false ∧
    (0 < (⟨0, 7⟩ : Frac).den ∧ (⟨0, 7⟩ : Frac).toRat = 0) ∧
    (0 < (⟨-1, 2 ^ 200⟩ : Frac).den ∧ (⟨-1, 2 ^ 200⟩ : Frac).toRat ≠ 0) := by
  refine ⟨by unfold isFinite; decide, by decide, by unfold isFinite; decide, by decide, ?_, ?_⟩ <;> decide +kernel
/-- Within range, past both ends. -/
theorem witness_DirectedRoundingIsTightest : (0 < (⟨1, 3⟩ : Frac).den ∧ (⟨1, 3⟩ : Frac).num ≠ 0) ∧
    (0 < (⟨2 ^ 128, 1⟩ : Frac).den ∧ (⟨2 ^ 128, 1⟩ : Frac).num ≠ 0) ∧
    (isFinite .single 0x3f800000#32 ∧ ratOf .single 0x3f800000#32 = 1) := by
  refine ⟨by decide, by decide, by unfold isFinite; decide, by decide +kernel⟩
/-- Below the threshold and at it, for S. -/
theorem witness_NearestRoundingIsNearest :
    (0 < (⟨1, 3⟩ : Frac).den ∧ (⟨1, 3⟩ : Frac).num ≠ 0 ∧
      |(⟨1, 3⟩ : Frac).toRat| < (2 - (2 : ℚ) ^ (-((Fmt.single.prec : Nat) : Int))) * (2 : ℚ) ^ Fmt.single.emax) ∧
    (0 < (⟨-((2 ^ 25 - 1) * 2 ^ 103), 1⟩ : Frac).den ∧ (⟨-((2 ^ 25 - 1) * 2 ^ 103), 1⟩ : Frac).num ≠ 0 ∧
      (2 - (2 : ℚ) ^ (-((Fmt.single.prec : Nat) : Int))) * (2 : ℚ) ^ Fmt.single.emax ≤
        |(⟨-((2 ^ 25 - 1) * 2 ^ 103), 1⟩ : Frac).toRat|) := by
  refine ⟨⟨by decide, by decide, ?_⟩, by decide, by decide, ?_⟩ <;> decide +kernel
/-- The greatest finite number of S (e = 127) and 2^128 just above it (e = 128, OF); 2^-126 (no UF) and a tiny number below the
least subnormal, rounded exactly in step 1 and inexactly in step 3 (e = -150, UF). -/
theorem witness_InexactFlagTellsTheTruth : (0 < (⟨1, 3⟩ : Frac).den ∧ 0 < (⟨0, 1⟩ : Frac).den) ∧
    ((2 : ℚ) ^ (127 : Int) ≤ |(⟨(2 ^ 24 - 1) * 2 ^ 104, 1⟩ : Frac).toRat| ∧
      |(⟨(2 ^ 24 - 1) * 2 ^ 104, 1⟩ : Frac).toRat| < (2 : ℚ) ^ (127 + 1 : Int) ∧
      RoundsToInt .rdn ((⟨(2 ^ 24 - 1) * 2 ^ 104, 1⟩ : Frac).toRat / (2 : ℚ) ^ (127 - (Fmt.single.prec : Int) + 1)) (2 ^ 24 - 1)) ∧
    ((2 : ℚ) ^ (128 : Int) ≤ |(⟨2 ^ 128, 1⟩ : Frac).toRat| ∧ |(⟨2 ^ 128, 1⟩ : Frac).toRat| < (2 : ℚ) ^ (128 + 1 : Int) ∧
      RoundsToInt .rdn ((⟨2 ^ 128, 1⟩ : Frac).toRat / (2 : ℚ) ^ (128 - (Fmt.single.prec : Int) + 1)) (2 ^ 23)) ∧
    ((2 : ℚ) ^ (-126 : Int) ≤ |(⟨1, 2 ^ 126⟩ : Frac).toRat| ∧ |(⟨1, 2 ^ 126⟩ : Frac).toRat| < (2 : ℚ) ^ (-126 + 1 : Int) ∧
      RoundsToInt .rdn ((⟨1, 2 ^ 126⟩ : Frac).toRat / (2 : ℚ) ^ (-126 - (Fmt.single.prec : Int) + 1)) (2 ^ 23)) ∧
    ((2 : ℚ) ^ (-150 : Int) ≤ |(⟨-1, 2 ^ 150⟩ : Frac).toRat| ∧ |(⟨-1, 2 ^ 150⟩ : Frac).toRat| < (2 : ℚ) ^ (-150 + 1 : Int) ∧
      RoundsToInt .rdn ((⟨-1, 2 ^ 150⟩ : Frac).toRat / (2 : ℚ) ^ (-150 - (Fmt.single.prec : Int) + 1)) (-(2 ^ 23))) := by
  unfold RoundsToInt; decide +kernel
/-- 1 + 1 = 2, 1 * 1 = 1, 1 / 1 = 1, 1 * 1 + 1 = 2; the other clauses are met by the patterns of witness_patterns. -/
theorem witness_AdditionIsRoundedExactSum : isFinite .single 0x3f800000#32 ∧ 0 < (⟨2, 1⟩ : Frac).den ∧
    (⟨2, 1⟩ : Frac).toRat = ratOf .single 0x3f800000#32 + ratOf .single 0x3f800000#32 ∧
    isSNaN .single 0x7fa00000#32 = true ∧ (isNaN .single 0x7fc00000#32 = true ∧ isSNaN .single 0x7fc00000#32 = false) ∧
    (isInf .single 0x7f800000#32 = true ∧ isInf .single 0xff800000#32 = true ∧
      signOf .single 0x7f800000#32 ≠ signOf .single 0xff800000#32) := by
  refine ⟨by unfold isFinite; decide, by decide, by decide +kernel, by decide⟩
theorem witness_MultiplicationIsRoundedExactProduct : isFinite .single 0x3f800000#32 ∧ 0 < (⟨1, 1⟩ : Frac).den ∧
    (⟨1, 1⟩ : Frac).toRat = ratOf .single 0x3f800000#32 * ratOf .single 0x3f800000#32 ∧
    (isInf .single 0x7f800000#32 = true ∧ isZero .single 0x80000000#32 = true) ∧ isZero .single 0x3f800000#32 = false := by
  refine ⟨by unfold isFinite; decide, by decide, by decide +kernel, by decide⟩
theorem witness_DivisionIsRoundedExactQuotient : isFinite .single 0x3f800000#32 ∧ isZero .single 0x3f800000#32 = false ∧
    (⟨1, 1⟩ : Frac).toRat = ratOf .single 0x3f800000#32 / ratOf .single 0x3f800000#32 ∧ 0 < (⟨1, 1⟩ : Frac).den ∧
    (isFinite .single 0x80000000#32 ∧ isZero .single 0x80000000#32 = true) ∧ isInf .single 0x7f800000#32 = true := by
  refine ⟨by unfold isFinite; decide, by decide, by decide +kernel, by decide, ⟨by unfold isFinite; decide, by decide⟩, by decide⟩
theorem witness_FusedMultiplyAddRoundsOnce : isFinite .single 0x3f800000#32 ∧ 0 < (⟨2, 1⟩ : Frac).den ∧
    (⟨2, 1⟩ : Frac).toRat =
      ratOf .single 0x3f800000#32 * ratOf .single 0x3f800000#32 + ratOf .single 0x3f800000#32 ∧
    (isInf .single 0x7f800000#32 = true ∧ isZero .single 0x00000000#32 = true) ∧ isSNaN .single 0x7fa00000#32 = true ∧
    isNaN .single 0x7fc00000#32 = true ∧ isInf .single 0xff800000#32 = true := by
  refine ⟨by unfold isFinite; decide, by decide, by decide +kernel, by decide⟩
theorem witness_SquareRootIsCorrectlyRounded : (isFinite .single 0x40000000#32 ∧ isZero .single 0x40000000#32 = false ∧
      signOf .single 0x40000000#32 = false) ∧ (isFinite .single 0x3fb504f3#32 ∧ 0 ≤ ratOf .single 0x3fb504f3#32) ∧
    isSNaN .single 0x7fa00000#32 = true ∧ isZero .single 0x80000000#32 = true ∧
    (isNaN .single 0xbf800000#32 = false ∧ isZero .single 0xbf800000#32 = false ∧ signOf .single 0xbf800000#32 = true) ∧
    (isInf .single 0x7f800000#32 = true ∧ signOf .single 0x7f800000#32 = false) := by
  refine ⟨⟨by unfold isFinite; decide, by decide, by decide⟩, ⟨by unfold isFinite; decide, by decide +kernel⟩, by decide⟩
theorem witness_ComparisonsFollowTheExtendedReals : ¬ (isNaN .single 0xff800000#32 = true ∨ isNaN .single 0x7f800000#32 = true) ∧
    (isNaN .single 0x7fc00000#32 = true ∨ isNaN .single 0x7f800000#32 = true) := by decide
theorem witness_MinAndMaxPickByOrder : isNaN .single 0x7fc00000#32 = true ∧ isNaN .single 0x3f800000#32 = false ∧
    (isZero .single 0x80000000#32 = true ∧ isZero .single 0x00000000#32 = true) ∧
    extRat .single 0xff800000#32 < extRat .single 0x3f800000#32 ∧
    ¬ extRat .single 0x3f800000#32 < extRat .single 0x3f800000#32 := by
  refine ⟨by decide, by decide, by decide, ?_, lt_irrefl _⟩
  have h1 : extRat .single 0xff800000#32 = ⊥ := by unfold extRat; rw [if_pos (by decide), if_pos (by decide)]
  have h2 : extRat .single 0x3f800000#32 = ((ratOf .single 0x3f800000#32 : WithTop ℚ) : WithBot (WithTop ℚ)) := by
    unfold extRat; rw [if_neg (by decide)]
  rw [h1, h2]; exact WithBot.bot_lt_coe _
/-- 2.5 in RNE: rounded to 2, in range; 2^31 is above the range of 32 signed bits, -1 below that of the unsigned. -/
theorem witness_FloatToIntegerRoundsAndSaturates : isFinite .single 0x40200000#32 ∧ RoundsToInt .rne (5 / 2) 2 ∧
    (intLow 32 true ≤ 2 ∧ 2 ≤ intHigh 32 true) ∧ intHigh 32 true < 2147483648 ∧ -1 < intLow 32 false ∧
    isNaN .single 0xffc00000#32 = true ∧ isInf .single 0xff800000#32 = true := by
  refine ⟨by unfold isFinite; decide, .inr ⟨by norm_num [abs_of_pos], by decide⟩, by decide, by decide, by decide, by decide,
    by decide⟩
theorem witness_WideningToDoubleIsExact : isFinite .single 0x00000001#32 ∧ isFinite .single 0xff7fffff#32 ∧
    isSNaN .single 0x7fa00000#32 = true ∧ (isNaN .single 0x7fc00000#32 = true ∧ isSNaN .single 0x7fc00000#32 = false) ∧
    isInf .single 0xff800000#32 = true := by unfold isFinite; decide
theorem witness_NarrowingToSingleRoundsOnce : isFinite .double 0xbff0000000000000#64 ∧ 0 < (⟨-2, 2⟩ : Frac).den ∧
    (⟨-2, 2⟩ : Frac).toRat = ratOf .double 0xbff0000000000000#64 ∧ isSNaN .double 0x7ff0000000000001#64 = true ∧
    (isNaN .double 0x7ff8000000000000#64 = true ∧ isSNaN .double 0x7ff8000000000000#64 = false) ∧
    isInf .double 0xfff0000000000000#64 = true := by
  refine ⟨by unfold isFinite; decide, by decide, by decide +kernel, by decide⟩
/-- An operation gives a NaN: inf - inf, 0 / 0, the root of -1, the narrowing of a NaN. -/
theorem witness_NaNsAreCanonical : isNaN .single (fpSub .single .rne 0x7f800000#32 0x7f800000#32).1 = true ∧
    isNaN .double (fpDiv .double .rne 0#64 0#64).1 = true ∧ isNaN .single (fpSqrt .single .rne 0xbf800000#32).1 = true ∧
    isNaN .single (fpConvert .double .single .rne 0x7ff0000000000001#64).1 = true := by decide +kernel

/-- The state a result continues in. -/
def nextOf : Result → Option State
  | .next t => some t
  | _ => none
theorem next_of_isSome {r : Result} (h : (nextOf r).isSome = true) : ∃ t, r = .next t := by
  cases r with
  | next t => exact ⟨t, rfl⟩
  | fault f => cases h
  | refused q => cases h

theorem witness_FlagsAreSticky : isCsrInstr (.fdivS 5 6 7 7) = false ∧
    ∃ t, exec (.fdivS 5 6 7 7) (small .rv64 [] [(6, 0xffffffff3f800000)] [] 1) = .next t :=
  ⟨rfl, next_of_isSome (by decide +kernel)⟩
/-- pc outside memory; inside with a word that is no instruction; inside with one that is; no byte in doubt; the last byte in
doubt. -/
theorem witness_StepRunsTheDecodedInstruction : ¬ { at6 .rv64 0 with pc := 0x2000 }.Inside 0x2000 4 ∧
    ((at6 .rv64 0).Inside (at6 .rv64 0).getPc 4 ∧ decode .rv64 (at6 .rv64 0).fetchWord = .error .compressedSpace) ∧
    decode .rv64 ((at6 .rv64 0).withFetchWord 32 0x007302b3).fetchWord = .ok (.add 5 6 7) ∧
    (∀ c ∈ (at6 .rv64 0).stale, c.1 ∉ (at6 .rv64 0).bytesAt (at6 .rv64 0).getPc 4) ∧
    (∃ c ∈ ((at6 .rv64 0).storeByte 0x1003 7).stale,
      c.1 ∈ ((at6 .rv64 0).storeByte 0x1003 7).bytesAt ((at6 .rv64 0).storeByte 0x1003 7).getPc 4) := by
  refine ⟨by unfold State.Inside; decide +kernel, ⟨by unfold State.Inside; decide +kernel, by rfl⟩, by rfl, by decide,
    by decide +kernel⟩
theorem witness_FetchReturnsAnAdmissibleByte : ∀ c ∈ ((at6 .rv64 0).storeByte 0x1000 7).stale, c.1 ≠ 0x1001 := by decide +kernel
/-- An instruction that traps at a well-formed term. -/
theorem witness_OnlyListedExceptions : (Instr.lw 5 6 1).wf .rv64 = true ∧
    exec (.lw 5 6 1) (at6 .rv64 0x1000) = .fault (.trap .loadAddressMisaligned 0x1001) := ⟨by decide, by rfl⟩
theorem inv_at6 : ((at6 .rv32 0).withFetchWord 32 0x00630313).Inv where
  params := by rfl
  pcAligned := by decide
  pcWidth := by decide
  xZero := by decide
  xWidth := by decide +kernel
  memForm := by decide +kernel
  memInside := by decide +kernel
  staleInside := by decide +kernel
  staleForm := by decide +kernel
  resSize := by intro r h; cases h
  resAligned := by intro r h; cases h
  resInside := by intro r h; cases h
theorem witness_StepKeepsTheInvariant : ((at6 .rv32 0).withFetchWord 32 0x00630313).Inv ∧
    ∃ t, step ((at6 .rv32 0).withFetchWord 32 0x00630313) = .next t := ⟨inv_at6, next_of_isSome (by decide +kernel)⟩
/-- Legal parameters, a well-formed image inside memory at its first and last byte. -/
theorem witness_ResetHasTheInvariant : Params.card32.legal = true ∧
    (Memory.mk [(0, 1), (2 ^ 32 - 1, 2)]).wf = true ∧
    (∀ c ∈ (Memory.mk [(0, 1), (2 ^ 32 - 1, 2)]).cells,
      Params.card32.memBase ≤ c.1 ∧ c.1 < Params.card32.memBase + Params.card32.memSize) := by decide +kernel
theorem witness_DecodeOfEncodeIsTheInstruction : (Instr.addw 5 6 7).wf .rv64 = true ∧ (Instr.beq 5 6 100).wf .rv32 = true ∧
    (Instr.slli 5 6 31).wf .rv32 = true := by decide
theorem witness_EncodeOfDecodeIsTheWord : decode .rv64 0x007302bb = .ok (.addw 5 6 7) ∧
    decode .rv32 0x06628263 = .ok (.beq 5 6 100) := ⟨by rfl, by rfl⟩

end Sys2Proof.Tests
end

section
/-! PROOFS. The two fields of fcsr, and what a completing instruction that is no CSR instruction leaves in fcsr: the same frm, and
the flags with some more ORed into them (10_state.md R38, R39). -/

namespace Sys2Proof.Machine

open Sys2Proof

/-! ### fcsr as a number -/

theorem State.fflags_toNat (s : State) : s.fflags.toNat = s.fcsr.toNat % 32 := by
  simp [State.fflags, BitVec.extractLsb'_toNat]

theorem State.frm_toNat (s : State) : s.frm.toNat = s.fcsr.toNat / 32 := by
  have hf : s.fcsr.toNat < 256 := s.fcsr.isLt
  rw [State.frm, BitVec.extractLsb'_toNat, Nat.shiftRight_eq_div_pow]
  omega

theorem append_flags_toNat (hi : BitVec 3) (lo : BitVec 5) : (hi ++ lo).toNat = hi.toNat * 32 + lo.toNat := by
  rw [BitVec.toNat_append, ← Nat.shiftLeft_add_eq_or_of_lt lo.isLt, Nat.shiftLeft_eq]

/-- fcsr is frm above fflags (10_state.md R37). -/
theorem State.frm_append_fflags (s : State) : s.frm ++ s.fflags = s.fcsr := by
  apply BitVec.eq_of_toNat_eq
  rw [append_flags_toNat, s.frm_toNat, s.fflags_toNat]
  omega

theorem State.csrRead_fflags_toNat (s : State) : (s.csrRead 0x001).toNat = s.fcsr.toNat % 32 := by
  have hread : s.csrRead 0x001 = s.fflags.setWidth 64 := rfl
  rw [hread, BitVec.toNat_setWidth, s.fflags_toNat]
  omega

theorem State.csrWrite_fflags_toNat (s : State) (v : Word) :
    (s.csrWrite 0x001 v).fcsr.toNat = s.fcsr.toNat / 32 * 32 + v.toNat % 32 := by
  have hwrite : (s.csrWrite 0x001 v).fcsr = s.frm ++ v.extractLsb' 0 5 := rfl
  rw [hwrite, append_flags_toNat, s.frm_toNat, BitVec.extractLsb'_toNat, Nat.shiftRight_zero]

/-! ### Results that only accrue flags -/

/-- Whatever state the result r continues in, its fcsr is that of s with some flags ORed in. -/
def OnlyAccrues (s : State) (r : Result) : Prop := ∀ t, r = .next t → ∃ fl : BitVec 5, t.fcsr = (s.accrue fl).fcsr

theorem State.accrue_zero_fcsr (s : State) : (s.accrue 0).fcsr = s.fcsr := by
  simpa using s.frm_append_fflags

theorem State.accrue_fcsr_congr {s u : State} (h : u.fcsr = s.fcsr) (fl : BitVec 5) :
    (u.accrue fl).fcsr = (s.accrue fl).fcsr := by
  simp only [State.accrue_fcsr, State.frm, State.fflags, h]

/-- Flags that only accrue stay set, and frm stays (10_state.md R38). -/
theorem OnlyAccrues.sticky {s t : State} {r : Result} (h : OnlyAccrues s r) (ht : r = .next t) :
    s.fflags &&& t.fflags = s.fflags ∧ t.frm = s.frm := by
  obtain ⟨fl, hfl⟩ := h t ht
  have hflags : t.fflags = s.fflags ||| fl := (congrArg (·.extractLsb' 0 5) hfl).trans (s.fflags_accrue fl)
  have hfrm : t.frm = s.frm := (congrArg (·.extractLsb' 5 3) hfl).trans (s.frm_accrue fl)
  refine ⟨?_, hfrm⟩
  rw [hflags]
  ext k hk
  cases hs : s.fflags[k] <;> simp [hs]

section Shapes

variable {s u : State} {i : Instr} {r : Result} {n : MemSize} {rd rs1 rs2 : XReg} {imm : Imm12}

theorem onlyAccrues_takeTrap {e : Exception} {info : Word} : OnlyAccrues s (takeTrap e info) := by
  intro t h; cases h

theorem onlyAccrues_next (h : u.fcsr = s.fcsr) : OnlyAccrues s (.next u) := by
  intro t ht; cases ht; exact ⟨0, h.trans s.accrue_zero_fcsr.symm⟩

theorem onlyAccrues_retire (h : u.fcsr = s.fcsr) : OnlyAccrues s u.retire := onlyAccrues_next h

theorem onlyAccrues_retire_accrue (h : u.fcsr = s.fcsr) (fl : BitVec 5) : OnlyAccrues s (u.accrue fl).retire := by
  intro t ht; cases ht; exact ⟨fl, State.accrue_fcsr_congr h fl⟩

theorem OnlyAccrues.onlyRv64 (h : OnlyAccrues s r) : OnlyAccrues s (s.onlyRv64 i r) :=
  fun t ht => h t (State.onlyRv64_next ht).2

theorem OnlyAccrues.access {k : Access} {a : Word} (h : OnlyAccrues s r) : OnlyAccrues s (s.access k a n r) := by
  intro t ht
  obtain ⟨-, -, hr⟩ := State.access_next ht
  exact h t hr

theorem onlyAccrues_rounding {rm : RmField} {k : RMode → Result} (h : ∀ m, OnlyAccrues s (k m)) :
    OnlyAccrues s (s.rounding i rm k) := by
  rcases s.rounding_cases i rm k with ⟨m, -, hr⟩ | ⟨-, hr⟩ <;> rw [hr]
  · exact h m
  · exact onlyAccrues_takeTrap

/-! The shapes of the integer instructions. -/

theorem onlyAccrues_writeX {v : Word} : OnlyAccrues s (s.writeX rd v).retire := onlyAccrues_retire (s.writeX_fcsr rd v)

theorem onlyAccrues_opRegReg {op : Word → Word → Word} : OnlyAccrues s (s.opRegReg op rd rs1 rs2) := onlyAccrues_writeX

theorem onlyAccrues_opRegConst {op : Word → Word → Word} {c : Word} : OnlyAccrues s (s.opRegConst op rd rs1 c) :=
  onlyAccrues_writeX

theorem onlyAccrues_opWord {op : BitVec 32 → BitVec 32 → BitVec 32} : OnlyAccrues s (s.opWord i op rd rs1 rs2) :=
  onlyAccrues_opRegReg.onlyRv64

theorem onlyAccrues_opWordShift {op : BitVec 32 → Nat → BitVec 32} {shamt : Shamt5} :
    OnlyAccrues s (s.opWordShift i op rd rs1 shamt) :=
  onlyAccrues_writeX.onlyRv64

theorem onlyAccrues_opShift {op : Word → Nat → Word} {shamt : Shamt6} : OnlyAccrues s (s.opShift i op rd rs1 shamt) := by
  rcases s.opShift_cases i op rd rs1 shamt with ⟨-, hr⟩ | ⟨-, hr⟩ <;> rw [hr]
  · exact onlyAccrues_writeX
  · exact onlyAccrues_takeTrap

theorem onlyAccrues_jumpTo {a : Word} (h : u.fcsr = s.fcsr) : OnlyAccrues s (u.jumpTo a) := by
  rcases u.jumpTo_cases a with ⟨-, hr⟩ | ⟨-, hr⟩ <;> rw [hr]
  · exact onlyAccrues_next h
  · exact onlyAccrues_takeTrap

theorem onlyAccrues_branch {taken : Bool} {off : Off13} : OnlyAccrues s (s.branch taken off) := by
  cases taken
  · exact onlyAccrues_retire rfl
  · exact onlyAccrues_jumpTo rfl

/-! The shapes of the instructions that access memory. -/

theorem onlyAccrues_loadX {ext : Word → Word} : OnlyAccrues s (s.loadX n ext rd rs1 imm) := onlyAccrues_writeX.access

theorem onlyAccrues_store {v : Word} : OnlyAccrues s (s.store n v rs1 imm) :=
  (onlyAccrues_retire (s.writeMem_fcsr _ n v)).access

theorem onlyAccrues_loadReserved : OnlyAccrues s (s.loadReserved n rd rs1) := (onlyAccrues_retire (by simp)).access

theorem onlyAccrues_storeConditional : OnlyAccrues s (s.storeConditional n rd rs1 rs2) := by
  refine OnlyAccrues.access ?_
  split
  · split <;> exact onlyAccrues_retire (by simp)
  · exact onlyAccrues_retire (by simp)

theorem onlyAccrues_amo {op : BitVec (8 * n.bytes) → BitVec (8 * n.bytes) → BitVec (8 * n.bytes)} :
    OnlyAccrues s (s.amo n op rd rs1 rs2) :=
  (onlyAccrues_retire (by simp)).access

/-! The shapes of the floating-point instructions. -/

variable {F : Fmt} {fd fs1 fs2 fs3 : FReg} {rm : RmField}

theorem onlyAccrues_writeF {v : BitVec 64} : OnlyAccrues s (s.writeF fd v).retire :=
  onlyAccrues_retire (s.writeF_fcsr fd v)

theorem onlyAccrues_loadF {make : Word → BitVec 64} : OnlyAccrues s (s.loadF n make fd rs1 imm) :=
  onlyAccrues_writeF.access

theorem onlyAccrues_finishF {r : Flagged F} : OnlyAccrues s (s.finishF F fd r) :=
  onlyAccrues_retire_accrue (s.writeFmt_fcsr F fd r.1) r.2

theorem onlyAccrues_finishX {v : Word} {fl : BitVec 5} : OnlyAccrues s (s.finishX rd v fl) :=
  onlyAccrues_retire_accrue (s.writeX_fcsr rd v) fl

theorem onlyAccrues_fpBinary {op : RMode → Pattern F → Pattern F → Flagged F} :
    OnlyAccrues s (s.fpBinary F i op fd fs1 fs2 rm) :=
  onlyAccrues_rounding fun _ => onlyAccrues_finishF

theorem onlyAccrues_fpUnary {G : Fmt} {op : RMode → Pattern F → Flagged G} :
    OnlyAccrues s (s.fpUnary F G i op fd fs1 rm) :=
  onlyAccrues_rounding fun _ => onlyAccrues_finishF

theorem onlyAccrues_fpFused {negProduct negAddend : Bool} :
    OnlyAccrues s (s.fpFused F i negProduct negAddend fd fs1 fs2 fs3 rm) :=
  onlyAccrues_rounding fun _ => onlyAccrues_finishF

theorem onlyAccrues_fpPick {op : Pattern F → Pattern F → Flagged F} : OnlyAccrues s (s.fpPick F op fd fs1 fs2) :=
  onlyAccrues_finishF

theorem onlyAccrues_fpInject {sign : Bool → Bool → Bool} : OnlyAccrues s (s.fpInject F sign fd fs1 fs2) :=
  onlyAccrues_retire (s.writeFmt_fcsr F fd _)

theorem onlyAccrues_fpCompare {op : Pattern F → Pattern F → Bool × BitVec 5} :
    OnlyAccrues s (s.fpCompare F op rd fs1 fs2) :=
  onlyAccrues_finishX

theorem onlyAccrues_fpToWord {sgn : Bool} : OnlyAccrues s (s.fpToWord F i sgn rd fs1 rm) :=
  onlyAccrues_rounding fun _ => onlyAccrues_finishX

theorem onlyAccrues_fpToLong {sgn : Bool} : OnlyAccrues s (s.fpToLong F i sgn rd fs1 rm) :=
  (onlyAccrues_rounding fun _ => onlyAccrues_finishX).onlyRv64

theorem onlyAccrues_fpFromInt {k : Int} : OnlyAccrues s (s.fpFromInt F i k fd rm) :=
  onlyAccrues_rounding fun _ => onlyAccrues_finishF

end Shapes

/-! ### Every instruction but the CSR instructions -/

/-- Each instruction is one of the shapes above; the CSR instructions alone write fcsr otherwise. -/
theorem exec_onlyAccrues (s : State) (i : Instr) (hi : isCsrInstr i = false) : OnlyAccrues s (exec i s) := by
  unfold exec
  cases i with
  | addi | slti | sltiu | xori | ori | andi => exact onlyAccrues_opRegConst
  | addiw => exact onlyAccrues_opRegConst.onlyRv64
  | add | sub | slt | sltu | sll | xor | srl | sra | or | and | mul | mulh | mulhsu | mulhu | div | divu | rem | remu =>
    exact onlyAccrues_opRegReg
  | addw | subw | sllw | srlw | sraw | mulw | divw | divuw | remw | remuw => exact onlyAccrues_opWord
  | slli | srli | srai => exact onlyAccrues_opShift
  | slliw | srliw | sraiw => exact onlyAccrues_opWordShift
  | lui | auipc | fmvXW | fclassS | fclassD => exact onlyAccrues_writeX
  | fmvXD => exact onlyAccrues_writeX.onlyRv64
  | fmvWX => exact onlyAccrues_writeF
  | fmvDX => exact onlyAccrues_writeF.onlyRv64
  | jal | jalr => exact onlyAccrues_jumpTo (s.writeX_fcsr ..)
  | beq | bne | blt | bge | bltu | bgeu => exact onlyAccrues_branch
  | fence | fenceI => exact onlyAccrues_retire rfl
  | ecall | ebreak => exact onlyAccrues_takeTrap
  | lb | lh | lw | lbu | lhu => exact onlyAccrues_loadX
  | lwu | ld => exact onlyAccrues_loadX.onlyRv64
  | sb | sh | sw | fsw | fsd => exact onlyAccrues_store
  | sd => exact onlyAccrues_store.onlyRv64
  | flw | fld => exact onlyAccrues_loadF
  | lrW => exact onlyAccrues_loadReserved
  | lrD => exact onlyAccrues_loadReserved.onlyRv64
  | scW => exact onlyAccrues_storeConditional
  | scD => exact onlyAccrues_storeConditional.onlyRv64
  | amoswapW | amoaddW | amoxorW | amoandW | amoorW | amominW | amomaxW | amominuW | amomaxuW => exact onlyAccrues_amo
  | amoswapD | amoaddD | amoxorD | amoandD | amoorD | amominD | amomaxD | amominuD | amomaxuD =>
    exact onlyAccrues_amo.onlyRv64
  | faddS | fsubS | fmulS | fdivS | faddD | fsubD | fmulD | fdivD => exact onlyAccrues_fpBinary
  | fsqrtS | fsqrtD | fcvtSD | fcvtDS => exact onlyAccrues_fpUnary
  | fmaddS | fmsubS | fnmsubS | fnmaddS | fmaddD | fmsubD | fnmsubD | fnmaddD => exact onlyAccrues_fpFused
  | fminS | fmaxS | fminD | fmaxD => exact onlyAccrues_fpPick
  | fsgnjS | fsgnjnS | fsgnjxS | fsgnjD | fsgnjnD | fsgnjxD => exact onlyAccrues_fpInject
  | feqS | fltS | fleS | feqD | fltD | fleD => exact onlyAccrues_fpCompare
  | fcvtWS | fcvtWuS | fcvtWD | fcvtWuD => exact onlyAccrues_fpToWord
  | fcvtLS | fcvtLuS | fcvtLD | fcvtLuD => exact onlyAccrues_fpToLong
  | fcvtSW | fcvtSWu | fcvtDW | fcvtDWu => exact onlyAccrues_fpFromInt
  | fcvtSL | fcvtSLu | fcvtDL | fcvtDLu => exact onlyAccrues_fpFromInt.onlyRv64
  | csrrw | csrrs | csrrc | csrrwi | csrrsi | csrrci => cases hi

/-- Settles O51: every instruction but the CSR instructions only accrues flags, and the window at 0x001 is fcsr[4:0]. -/
theorem flagsAreSticky : Obligations.FlagsAreSticky := by
  refine ⟨fun i s t hi ht => ?_, fun s v => ?_⟩
  · exact (exec_onlyAccrues s i hi).sticky ht
  · exact ⟨s.csrRead_fflags_toNat, s.csrWrite_fflags_toNat v⟩

end Sys2Proof.Machine
end

section
/-! PROOFS. The state after reset (10_state.md R50). -/

namespace Sys2Proof.Machine

open Sys2Proof

/-- The domains of the parameters as propositions (92_eei_decisions.md). -/
theorem params_legal_iff (p : Params) : p.legal = true ↔
    p.memBase % 8 = 0 ∧ p.memSize % 8 = 0 ∧ 0 < p.memSize ∧ p.memBase + p.memSize ≤ 2 ^ p.xlen.bits ∧
    8 ≤ p.resGrain ∧ p.resGrain = 2 ^ p.resGrain.log2 ∧
    p.resetPc % 4 = 0 ∧ p.memBase ≤ p.resetPc ∧ p.resetPc + 4 ≤ p.memBase + p.memSize := by
  simp only [Params.legal, Bool.and_eq_true, beq_iff_eq, decide_eq_true_eq, and_assoc]

theorem two_pow_bits_le (xl : XLen) : 2 ^ xl.bits ≤ 2 ^ 64 := by
  cases xl <;> decide

theorem narrow_toNat (xl : XLen) (v : Word) : (narrow xl v).toNat = v.toNat % 2 ^ xl.bits := by
  cases xl
  · have hle : v.toNat % 2 ^ 32 < 2 ^ 64 := by omega
    simp only [narrow, BitVec.toNat_setWidth, XLen.bits, Nat.mod_eq_of_lt hle]
  · exact (Nat.mod_eq_of_lt v.isLt).symm

section Reset

variable {p : Params} {image : Memory}

/-- RESET_PC lies in memory, so in the address space (10_state.md R50). -/
theorem resetPc_lt (hp : p.legal = true) : p.resetPc < 2 ^ p.xlen.bits := by
  obtain ⟨-, -, -, hspace, -, -, -, -, hend⟩ := (params_legal_iff p).mp hp
  omega

theorem resetWith_pc_toNat (hp : p.legal = true) : (State.resetWith p image).pc.toNat = p.resetPc :=
  (BitVec.toNat_ofNat ..).trans (Nat.mod_eq_of_lt ((resetPc_lt hp).trans_le (two_pow_bits_le p.xlen)))

theorem resetWith_getPc_toNat (hp : p.legal = true) : (State.resetWith p image).getPc.toNat = p.resetPc := by
  have hxlen : (State.resetWith p image).xlen = p.xlen := rfl
  rw [State.getPc, narrow_toNat, hxlen, resetWith_pc_toNat hp, Nat.mod_eq_of_lt (resetPc_lt hp)]

theorem resetWith_inv (hp : p.legal = true) (hform : image.wf = true)
    (hinside : ∀ c ∈ image.cells, p.memBase ≤ c.1 ∧ c.1 < p.memBase + p.memSize) : (State.resetWith p image).Inv where
  params := hp
  pcAligned := by
    obtain ⟨-, -, -, -, -, -, haligned, -, -⟩ := (params_legal_iff p).mp hp
    rw [resetWith_pc_toNat hp, haligned]
  pcWidth := by rw [resetWith_pc_toNat hp]; exact resetPc_lt hp
  xZero := rfl
  xWidth := fun r => by simp [State.resetWith]
  memForm := hform
  memInside := fun c hc => by
    obtain ⟨hlo, hhi⟩ := hinside c hc
    exact Bool.and_eq_true_iff.mpr ⟨decide_eq_true hlo, decide_eq_true hhi⟩
  staleInside := fun _ hc => nomatch hc
  staleForm := List.nodup_nil
  resSize := fun _ hr => nomatch hr
  resAligned := fun _ hr => nomatch hr
  resInside := fun _ hr => nomatch hr

end Reset

theorem reference_legal : Params.reference.legal = true := by decide

/-- Settles O56: State.reset is the reset state of the reference parameters, which are legal, with the empty image. -/
theorem resetHasTheInvariant : Obligations.ResetHasTheInvariant := by
  refine ⟨resetWith_inv reference_legal rfl (fun _ hc => nomatch hc), fun p image hp hform hinside => ?_⟩
  exact ⟨resetWith_inv hp hform hinside, resetWith_getPc_toNat hp, State.readX_zero _, rfl, rfl, rfl, rfl⟩

end Sys2Proof.Machine
end

section
/-! PROOFS. Instruction fetch: the bytes a fetch may return, the word they form, and the step that runs it (20_memory.md R78,
R101; 00_scope.md R9). -/

namespace Sys2Proof.Machine

open Sys2Proof

/-! ### The bookkeeping of replaced bytes (R101) -/

/-- V(a): the byte in memory, then the older values recorded since the last fence.i (20_memory.md R101). -/
def State.admissibleBytes (s : State) (a : Nat) : List Byte := s.mem.read a :: s.olderValues a

theorem mem_addStale (stale : List Host.Cell) (c d : Host.Cell) : c ∈ addStale stale d ↔ c = d ∨ c ∈ stale := by
  unfold addStale
  split
  next hmem => exact ⟨.inr, fun h => h.elim (fun hcd => hcd ▸ hmem) id⟩
  next => exact List.mem_cons

section Fetch

variable (s : State) (a k : Nat)

theorem State.mem_stale_storeByte (v : Byte) (c : Host.Cell) :
    c ∈ (s.storeByte a v).stale ↔ c = (a, s.mem.read a) ∨ c ∈ s.stale := by
  rw [State.storeByte_stale, mem_addStale]

theorem State.mem_olderValues (b : Byte) : b ∈ s.olderValues a ↔ (a, b) ∈ s.stale := by
  simp [State.olderValues]

/-! ### The fetched byte -/

/-- The free value of the draw picks the fetched byte out of V(a), also where V(a) has one member. -/
theorem State.fetchByte_getElem? :
    (s.admissibleBytes a)[Config.fetchPick s.draws k % ((s.olderValues a).length + 1)]? = some (s.fetchByte a k) := by
  unfold State.admissibleBytes State.fetchByte
  cases s.olderValues a with
  | nil => simp [Nat.mod_one]
  | cons b older =>
    have hlt : Config.fetchPick s.draws k % (older.length + 2) < (s.mem.read a :: b :: older).length :=
      Nat.mod_lt _ (Nat.succ_pos _)
    simp only [List.length_cons, List.getD_eq_getElem?_getD, List.getElem?_eq_getElem hlt, Option.getD_some]

theorem State.fetchByte_admissible : s.fetchByte a k = s.mem.read a ∨ (a, s.fetchByte a k) ∈ s.stale := by
  have hmem : s.fetchByte a k ∈ s.admissibleBytes a := List.mem_of_getElem? (s.fetchByte_getElem? a k)
  exact (List.mem_cons.mp hmem).imp_right (s.mem_olderValues a _).mp

/-- A byte not stored to since the last fence.i is fetched as it stands in memory. -/
theorem State.fetchByte_eq_read (h : ∀ c ∈ s.stale, c.1 ≠ a) : s.fetchByte a k = s.mem.read a :=
  (s.fetchByte_admissible a k).resolve_right fun hc => h _ hc rfl

end Fetch

/-- Settles O53: the fetched byte is a member of V(a), to which a store adds the byte it replaces. -/
theorem fetchReturnsAnAdmissibleByte : Obligations.FetchReturnsAnAdmissibleByte := fun s a k =>
  ⟨s.fetchByte_admissible a k, s.fetchByte_eq_read a k, s.mem_stale_storeByte, s.syncFetch_stale⟩

/-! ### The fetched word (R78) -/

theorem append_byte_toNat {n : Nat} (hi : BitVec n) (lo : Byte) : (hi ++ lo).toNat = hi.toNat * 256 + lo.toNat := by
  rw [BitVec.toNat_append, ← Nat.shiftLeft_add_eq_or_of_lt lo.isLt, Nat.shiftLeft_eq]

theorem wordOfBytes_toNat (b0 b1 b2 b3 : Byte) :
    (wordOfBytes b0 b1 b2 b3).toNat = b0.toNat + b1.toNat * 256 + b2.toNat * 256 ^ 2 + b3.toNat * 256 ^ 3 := by
  simp only [wordOfBytes, append_byte_toNat]
  ring

section Step

variable {s : State}

theorem State.byteAddr_mem_bytesAt (a : Word) {n i : Nat} (hi : i < n) : s.byteAddr a i ∈ s.bytesAt a n :=
  List.mem_map_of_mem (List.mem_range.mpr hi)

/-- With no byte in doubt the fetched word is the little-endian word in memory. -/
theorem State.fetchWord_toNat_of_clean (h : ∀ c ∈ s.stale, c.1 ∉ s.bytesAt s.getPc 4) :
    (s.fetchWord.toNat : Int) = s.bytesLE s.getPc 4 := by
  have hbyte : ∀ i < 4, s.fetchByte (s.byteAddr s.getPc i) i = s.mem.read (s.byteAddr s.getPc i) := fun i hi =>
    s.fetchByte_eq_read _ i fun c hc heq => h c hc (heq ▸ State.byteAddr_mem_bytesAt s.getPc hi)
  rw [State.fetchWord, hbyte 0 (by decide), hbyte 1 (by decide), hbyte 2 (by decide), hbyte 3 (by decide),
    wordOfBytes_toNat]
  simp only [State.bytesLE, List.range_succ, List.range_zero, List.nil_append, List.cons_append, List.map_cons, List.map_nil,
    List.sum_cons, List.sum_nil]
  push_cast
  ring

/-! ### The count of draws (R101) -/

theorem State.fetchIsDirty_iff : s.fetchIsDirty = true ↔ ∃ c ∈ s.stale, c.1 ∈ s.bytesAt s.getPc 4 := by
  simp only [State.fetchIsDirty, State.bytesAt, List.any_eq_true, decide_eq_true_eq, List.mem_map]
  constructor
  · rintro ⟨i, hi, c, hc, heq⟩
    exact ⟨c, hc, i, hi, heq.symm⟩
  · rintro ⟨c, hc, i, hi, heq⟩
    exact ⟨i, hi, c, hc, heq.symm⟩

theorem State.afterFetch_draws_of_dirty (h : ∃ c ∈ s.stale, c.1 ∈ s.bytesAt s.getPc 4) :
    s.afterFetch.draws = s.draws + 1 := by
  rw [State.afterFetch, if_pos (State.fetchIsDirty_iff.mpr h), State.drew_draws]

theorem State.afterFetch_of_clean (h : ∀ c ∈ s.stale, c.1 ∉ s.bytesAt s.getPc 4) : s.afterFetch = s := by
  refine if_neg fun hdirty => ?_
  obtain ⟨c, hc, hmem⟩ := State.fetchIsDirty_iff.mp hdirty
  exact h c hc hmem

/-! ### The step (00_scope.md R9) -/

theorem State.insideMemory_iff (a : Word) (n : Nat) : s.insideMemory a n = true ↔ s.Inside a n := by
  simp [State.insideMemory, State.Inside, State.bytesAt, State.inRange]

theorem step_of_outside (h : ¬ s.Inside s.getPc 4) : step s = .fault (.trap .instructionAccessFault s.getPc) :=
  if_pos (Bool.eq_false_iff.mpr (mt (State.insideMemory_iff s.getPc 4).mp h))

theorem step_of_decode_error {r : Reject} (h : s.Inside s.getPc 4) (hd : decode s.xlen s.fetchWord = .error r) :
    step s = .fault (.trap .illegalInstruction (s.fetchWord.setWidth 64)) := by
  have hin : s.insideMemory s.getPc 4 = true := (State.insideMemory_iff s.getPc 4).mpr h
  simp [step, State.fetchDecode, hin, hd, illegalWord, takeTrap]

theorem step_of_decode_ok {i : Instr} (h : s.Inside s.getPc 4) (hd : decode s.xlen s.fetchWord = .ok i) :
    step s = exec i s.afterFetch := by
  have hin : s.insideMemory s.getPc 4 = true := (State.insideMemory_iff s.getPc 4).mpr h
  simp [step, State.fetchDecode, hin, hd]

end Step

/-- Settles O52: the three outcomes of the step, then the fetched word byte by byte and the count of draws. -/
theorem stepRunsTheDecodedInstruction : Obligations.StepRunsTheDecodedInstruction := by
  intro s
  refine ⟨step_of_outside, fun h r => step_of_decode_error h, fun h i hd => ⟨step_of_decode_ok h hd, s.afterFetch_eq⟩,
    rfl, wordOfBytes_toNat .., s.fetchByte_getElem?, s.mem_olderValues, State.afterFetch_draws_of_dirty, fun h => ?_⟩
  exact ⟨State.afterFetch_of_clean h, State.fetchWord_toNat_of_clean h⟩

end Sys2Proof.Machine
end

section
/-! PROOFS. Words and their fields: every format is the fields of the word written side by side, so that a word is the encoding
of its fields, a field of an encoded word is the operand, and a mask acts on each field by itself (30_encoding.md R121 to
R127). -/

namespace Sys2Proof

open Machine (extract_append_low extract_append_high)
open BitVec renaming extractLsb'_append_eq_of_le → extract_append_above,
  extractLsb'_append_extractLsb'_eq_extractLsb' → extract_join

/-! ### Pieces of a bit vector -/

section Pieces

variable {k m n : Nat}

theorem extract_extract (w : BitVec k) {s l t j : Nat} (h : t + j ≤ l) :
    (w.extractLsb' s l).extractLsb' t j = w.extractLsb' (s + t) j := by
  apply BitVec.eq_of_getLsbD_eq; intro i hi
  have hl : t + i < l := by omega
  simp [hi, hl, Nat.add_assoc]

theorem ofBool_getLsbD (w : BitVec k) (i : Nat) : BitVec.ofBool (w.getLsbD i) = w.extractLsb' i 1 := by
  apply BitVec.eq_of_getLsbD_eq; intro j hj
  obtain rfl : j = 0 := by omega
  simp

theorem append_and_append {a a' x : BitVec m} {b b' y : BitVec n} (ha : a &&& a' = x) (hb : b &&& b' = y) :
    (a ++ b) &&& (a' ++ b') = x ++ y := by
  rw [BitVec.and_append, ha, hb]

theorem extract_zero_of_even {w : BitVec k} (h : w.getLsbD 0 = false) : w.extractLsb' 0 1 = 0#1 := by
  rw [← ofBool_getLsbD, h]; rfl

theorem getLsbD_append_zero (a : BitVec n) : (a ++ 0#1).getLsbD 0 = false := by
  rw [BitVec.getLsbD_append]; simp

end Pieces

section Words

variable {w : InstWord} {t t' : BitVec 12} {u : BitVec 20} {rd rd' rs1 rs1' rs2 rs3 : BitVec 5} {f3 f3' : BitVec 3}
  {op op' f7 : BitVec 7} {f6 shamt : BitVec 6} {f5 : BitVec 5} {fmt : BitVec 2} {fm pred succ : BitVec 4} {aq rl : Bool}

/-- The major opcode, inst[6:0] (30_encoding.md R130). -/
def fOpcode (w : InstWord) : BitVec 7 := w.extractLsb' 0 7

/-! ### Format I: the upper twelve bits, rs1, funct3, rd, opcode -/

theorem encI_fields (w : InstWord) : encI (fImmI w) (fRs1 w) (fFunct3 w) (fRd w) (fOpcode w) = w := by
  rw [encI, fImmI, fRs1, fFunct3, fRd, fOpcode, extract_join, extract_join, extract_join, extract_join,
    BitVec.extractLsb'_eq_self] <;> rfl

theorem fRd_encI : fRd (encI t rs1 f3 rd op) = rd := by
  rw [fRd, encI, extract_append_above, extract_append_low]; decide

theorem fFunct3_encI : fFunct3 (encI t rs1 f3 rd op) = f3 := by
  rw [fFunct3, encI, extract_append_above, extract_append_above, extract_append_low] <;> decide

theorem fRs1_encI : fRs1 (encI t rs1 f3 rd op) = rs1 := by
  rw [fRs1, encI, extract_append_above, extract_append_above, extract_append_above, extract_append_low] <;> decide

theorem fImmI_encI : fImmI (encI t rs1 f3 rd op) = t := by
  rw [fImmI, encI, extract_append_above, extract_append_above, extract_append_above, extract_append_high] <;> decide

theorem encI_and : encI t rs1 f3 rd op &&& encI t' rs1' f3' rd' op' =
    encI (t &&& t') (rs1 &&& rs1') (f3 &&& f3') (rd &&& rd') (op &&& op') := by
  unfold encI
  rw [BitVec.and_append, BitVec.and_append, BitVec.and_append, BitVec.and_append]

/-- A mask of the table fixes the opcode, hides rs1 and rd, and acts on the upper twelve bits and on funct3. -/
theorem encI_and_mask {tp : BitVec 12} {f3p : BitVec 3} (ht : t &&& t' = tp) (h3 : f3 &&& f3' = f3p) :
    encI t rs1 f3 rd op &&& encI t' 0 f3' 0 (.allOnes 7) = encI tp 0 f3p 0 op := by
  rw [encI_and, BitVec.and_allOnes, ht, h3]
  simp only [BitVec.ofNat_eq_ofNat, BitVec.and_zero]

/-! ### Format U: the upper twenty bits, rd, opcode -/

theorem encU_fields (w : InstWord) : encU (fImmU w) (fRd w) (fOpcode w) = w := by
  rw [encU, fImmU, fRd, fOpcode, extract_join, extract_join, BitVec.extractLsb'_eq_self] <;> rfl

theorem fRd_encU : fRd (encU u rd op) = rd := by
  rw [fRd, encU, extract_append_above, extract_append_low]; decide

theorem fImmU_encU : fImmU (encU u rd op) = u := by
  rw [fImmU, encU, extract_append_above, extract_append_high]; decide

theorem encU_and_mask : encU u rd op &&& 0x7f = encU 0 0 op := by
  rw [show (0x7f : InstWord) = encU 0 0 (.allOnes 7) from rfl]
  unfold encU
  rw [BitVec.and_append, BitVec.and_append, BitVec.and_allOnes]
  simp only [BitVec.ofNat_eq_ofNat, BitVec.and_zero]

/-! ### Formats R, I-shamt and R-amo: format I with the upper twelve bits split further -/

/-- funct7 = inst[31:25] (30_encoding.md R121). -/
def fFunct7 (w : InstWord) : BitVec 7 := w.extractLsb' 25 7
/-- The six bits above a 6-bit shamt, inst[31:26] (30_encoding.md R127). -/
def fFunct6 (w : InstWord) : BitVec 6 := w.extractLsb' 26 6
/-- funct5 = inst[31:27] (format R-amo). -/
def fFunct5 (w : InstWord) : BitVec 5 := w.extractLsb' 27 5
/-- fmt = inst[26:25] (format R4). -/
def fFmt (w : InstWord) : BitVec 2 := w.extractLsb' 25 2

/-- A field of the upper twelve bits of the word. -/
theorem extract_encI {s l : Nat} (h : s + l ≤ 12) :
    (encI t rs1 f3 rd op).extractLsb' (20 + s) l = t.extractLsb' s l := by
  rw [← extract_extract (encI t rs1 f3 rd op) h]
  exact congrArg (·.extractLsb' s l) fImmI_encI

theorem encR_eq_encI : encR f7 rs2 rs1 f3 rd op = encI (f7 ++ rs2) rs1 f3 rd op := rfl

theorem encR_fields (w : InstWord) : encR (fFunct7 w) (fRs2 w) (fRs1 w) (fFunct3 w) (fRd w) (fOpcode w) = w := by
  have hupper : fFunct7 w ++ fRs2 w = fImmI w := extract_join rfl
  rw [encR_eq_encI, hupper, encI_fields]

theorem fRs2_encR : fRs2 (encR f7 rs2 rs1 f3 rd op) = rs2 :=
  (extract_encI (s := 0) (by decide)).trans (extract_append_low f7 rs2)

theorem fFunct7_encR : fFunct7 (encR f7 rs2 rs1 f3 rd op) = f7 :=
  (extract_encI (s := 5) (by decide)).trans (extract_append_high f7 rs2)

theorem encShamt6_eq_encI : encShamt6 f6 shamt rs1 f3 rd op = encI (f6 ++ shamt) rs1 f3 rd op := rfl

theorem encShamt6_fields (w : InstWord) :
    encShamt6 (fFunct6 w) (fShamt6 w) (fRs1 w) (fFunct3 w) (fRd w) (fOpcode w) = w := by
  have hupper : fFunct6 w ++ fShamt6 w = fImmI w := extract_join rfl
  rw [encShamt6_eq_encI, hupper, encI_fields]

theorem fShamt6_encShamt6 : fShamt6 (encShamt6 f6 shamt rs1 f3 rd op) = shamt :=
  (extract_encI (s := 0) (by decide)).trans (extract_append_low f6 shamt)

/-- A 5-bit shamt below a zero bit: format I-shamt5 is format R (30_encoding.md R127). -/
theorem encShamt6_setWidth (rs2 : BitVec 5) :
    encShamt6 f6 (rs2.setWidth 6) rs1 f3 rd op = encR (f6 ++ 0#1) rs2 rs1 f3 rd op := by
  have hupper : f6 ++ rs2.setWidth 6 = (f6 ++ 0#1) ++ rs2 := by
    rw [BitVec.append_assoc, BitVec.setWidth_eq_append (by decide)]; rfl
  rw [encShamt6_eq_encI, encR_eq_encI, hupper]

theorem encR4_eq_encI : encR4 rs3 fmt rs2 rs1 f3 rd op = encI (rs3 ++ fmt ++ rs2) rs1 f3 rd op := rfl

theorem encR4_fields (w : InstWord) :
    encR4 (fRs3 w) (fFmt w) (fRs2 w) (fRs1 w) (fFunct3 w) (fRd w) (fOpcode w) = w := by
  have hupper : fRs3 w ++ fFmt w ++ fRs2 w = fImmI w := by
    rw [fRs3, fFmt, fRs2, extract_join, extract_join] <;> rfl
  rw [encR4_eq_encI, hupper, encI_fields]

theorem fRs2_encR4 : fRs2 (encR4 rs3 fmt rs2 rs1 f3 rd op) = rs2 :=
  (extract_encI (s := 0) (by decide)).trans (extract_append_low _ rs2)

theorem fRs3_encR4 : fRs3 (encR4 rs3 fmt rs2 rs1 f3 rd op) = rs3 :=
  (extract_encI (s := 7) (by decide)).trans
    ((extract_append_above (by decide)).trans (extract_append_high rs3 fmt))

theorem encAmo_eq_encI :
    encAmo f5 aq rl rs2 rs1 f3 rd = encI (f5 ++ BitVec.ofBool aq ++ BitVec.ofBool rl ++ rs2) rs1 f3 rd 0x2f := rfl

theorem encAmo_fields (hop : fOpcode w = 0x2f) :
    encAmo (fFunct5 w) (fAq w) (fRl w) (fRs2 w) (fRs1 w) (fFunct3 w) (fRd w) = w := by
  have hupper : fFunct5 w ++ BitVec.ofBool (fAq w) ++ BitVec.ofBool (fRl w) ++ fRs2 w = fImmI w := by
    rw [fAq, fRl, ofBool_getLsbD, ofBool_getLsbD, fFunct5, fRs2, extract_join, extract_join, extract_join] <;> rfl
  rw [encAmo_eq_encI, hupper, ← hop, encI_fields]

theorem fRs2_encAmo : fRs2 (encAmo f5 aq rl rs2 rs1 f3 rd) = rs2 :=
  (extract_encI (s := 0) (by decide)).trans (extract_append_low _ rs2)

theorem fRl_encAmo : fRl (encAmo f5 aq rl rs2 rs1 f3 rd) = rl := by
  have hbit : (encAmo f5 aq rl rs2 rs1 f3 rd).extractLsb' 25 1 = BitVec.ofBool rl :=
    (extract_encI (s := 5) (by decide)).trans
      ((extract_append_above (by decide)).trans (extract_append_low _ (BitVec.ofBool rl)))
  rw [← ofBool_getLsbD] at hbit
  exact BitVec.ofBool_eq_iff_eq.mp hbit

theorem fAq_encAmo : fAq (encAmo f5 aq rl rs2 rs1 f3 rd) = aq := by
  have hbit : (encAmo f5 aq rl rs2 rs1 f3 rd).extractLsb' 26 1 = BitVec.ofBool aq :=
    (extract_encI (s := 6) (by decide)).trans
      ((extract_append_above (by decide)).trans
        ((extract_append_above (by decide)).trans (extract_append_low f5 (BitVec.ofBool aq))))
  rw [← ofBool_getLsbD] at hbit
  exact BitVec.ofBool_eq_iff_eq.mp hbit

/-! `fence`: fm, pred and succ share the twelve bits of an I-immediate. -/

theorem fence_fields (w : InstWord) : fFm w ++ fPred w ++ fSucc w = fImmI w := by
  rw [fFm, fPred, fSucc, extract_join, extract_join] <;> rfl

theorem fSucc_encI : fSucc (encI (fm ++ pred ++ succ) rs1 f3 rd op) = succ :=
  (extract_encI (s := 0) (by decide)).trans (extract_append_low _ succ)

theorem fPred_encI : fPred (encI (fm ++ pred ++ succ) rs1 f3 rd op) = pred :=
  (extract_encI (s := 4) (by decide)).trans
    ((extract_append_above (by decide)).trans (extract_append_low fm pred))

theorem fFm_encI : fFm (encI (fm ++ pred ++ succ) rs1 f3 rd op) = fm :=
  (extract_encI (s := 8) (by decide)).trans
    ((extract_append_above (by decide)).trans (extract_append_high fm pred))

/-! ### Format S: format R with the immediate in place of funct7 and rd -/

theorem encS_eq_encR (imm : Imm12) :
    encS imm rs2 rs1 f3 op = encR (imm.extractLsb' 5 7) rs2 rs1 f3 (imm.extractLsb' 0 5) op := rfl

theorem fImmS_eq (w : InstWord) : fImmS w = fFunct7 w ++ fRd w := rfl

theorem encS_fields (w : InstWord) : encS (fImmS w) (fRs2 w) (fRs1 w) (fFunct3 w) (fOpcode w) = w := by
  have hhi : (fImmS w).extractLsb' 5 7 = fFunct7 w := extract_append_high _ _
  have hlo : (fImmS w).extractLsb' 0 5 = fRd w := extract_append_low _ _
  rw [encS_eq_encR, hhi, hlo, encR_fields]

theorem fImmS_encS (imm : Imm12) : fImmS (encS imm rs2 rs1 f3 op) = imm := by
  rw [encS_eq_encR, fImmS_eq, fFunct7_encR, encR_eq_encI, fRd_encI, extract_join, BitVec.extractLsb'_eq_self]
  rfl

/-! ### Formats B and J: the offset scattered over the word, its bit 0 left out -/

theorem encB_eq_encR (off : Off13) : encB off rs2 rs1 f3 op =
    encR (off.extractLsb' 12 1 ++ off.extractLsb' 5 6) rs2 rs1 f3 (off.extractLsb' 1 4 ++ off.extractLsb' 11 1) op :=
  congrArg (· ++ op) (BitVec.append_assoc ..)

theorem fOffB_eq (w : InstWord) : fOffB w = (fFunct7 w).extractLsb' 6 1 ++ (fRd w).extractLsb' 0 1 ++
    (fFunct7 w).extractLsb' 0 6 ++ (fRd w).extractLsb' 1 4 ++ 0#1 := by
  rw [fOffB, fFunct7, fRd, extract_extract, extract_extract, extract_extract, extract_extract] <;> decide

theorem encB_fields (w : InstWord) : encB (fOffB w) (fRs2 w) (fRs1 w) (fFunct3 w) (fOpcode w) = w := by
  have h12 : (fOffB w).extractLsb' 12 1 = w.extractLsb' 31 1 := by
    rw [fOffB, extract_append_above, extract_append_above, extract_append_above, extract_append_high] <;> decide
  have h11 : (fOffB w).extractLsb' 11 1 = w.extractLsb' 7 1 := by
    rw [fOffB, extract_append_above, extract_append_above, extract_append_above, extract_append_low] <;> decide
  have h5 : (fOffB w).extractLsb' 5 6 = w.extractLsb' 25 6 := by
    rw [fOffB, extract_append_above, extract_append_above, extract_append_low] <;> decide
  have h1 : (fOffB w).extractLsb' 1 4 = w.extractLsb' 8 4 := by
    rw [fOffB, extract_append_above, extract_append_low]; decide
  have hhi : w.extractLsb' 31 1 ++ w.extractLsb' 25 6 = fFunct7 w := extract_join rfl
  have hlo : w.extractLsb' 8 4 ++ w.extractLsb' 7 1 = fRd w := extract_join rfl
  rw [encB_eq_encR, h12, h11, h5, h1, hhi, hlo, encR_fields]

theorem fOffB_encB {off : Off13} (h : off.getLsbD 0 = false) : fOffB (encB off rs2 rs1 f3 op) = off := by
  rw [encB_eq_encR, fOffB_eq, fFunct7_encR, encR_eq_encI, fRd_encI, extract_append_high, extract_append_low,
    extract_append_high, extract_append_low, ← extract_zero_of_even h, extract_join, extract_join, extract_join,
    extract_join, BitVec.extractLsb'_eq_self] <;> decide

theorem encJ_eq_encU (off : Off21) : encJ off rd op = encU (off.extractLsb' 20 1 ++ off.extractLsb' 1 10 ++
    off.extractLsb' 11 1 ++ off.extractLsb' 12 8) rd op := rfl

theorem encJ_fields (w : InstWord) : encJ (fOffJ w) (fRd w) (fOpcode w) = w := by
  have h20 : (fOffJ w).extractLsb' 20 1 = w.extractLsb' 31 1 := by
    rw [fOffJ, extract_append_above, extract_append_above, extract_append_above, extract_append_high] <;> decide
  have h12 : (fOffJ w).extractLsb' 12 8 = w.extractLsb' 12 8 := by
    rw [fOffJ, extract_append_above, extract_append_above, extract_append_above, extract_append_low] <;> decide
  have h11 : (fOffJ w).extractLsb' 11 1 = w.extractLsb' 20 1 := by
    rw [fOffJ, extract_append_above, extract_append_above, extract_append_low] <;> decide
  have h1 : (fOffJ w).extractLsb' 1 10 = w.extractLsb' 21 10 := by
    rw [fOffJ, extract_append_above, extract_append_low]; decide
  have hupper : w.extractLsb' 31 1 ++ w.extractLsb' 21 10 ++ w.extractLsb' 20 1 ++ w.extractLsb' 12 8 = fImmU w := by
    rw [fImmU, extract_join, extract_join, extract_join] <;> rfl
  rw [encJ_eq_encU, h20, h1, h11, h12, hupper, encU_fields]

theorem fOffJ_eq (w : InstWord) : fOffJ w = (fImmU w).extractLsb' 19 1 ++ (fImmU w).extractLsb' 0 8 ++
    (fImmU w).extractLsb' 8 1 ++ (fImmU w).extractLsb' 9 10 ++ 0#1 := by
  rw [fOffJ, fImmU, extract_extract, extract_extract, extract_extract, extract_extract] <;> decide

theorem fOffJ_encJ {off : Off21} (h : off.getLsbD 0 = false) : fOffJ (encJ off rd op) = off := by
  rw [encJ_eq_encU, fOffJ_eq, fImmU_encU, extract_append_above, extract_append_above, extract_append_high,
    extract_append_low, extract_append_above, extract_append_low, extract_append_above, extract_append_above,
    extract_append_low, ← extract_zero_of_even h, extract_join, extract_join, extract_join, extract_join,
    BitVec.extractLsb'_eq_self] <;> decide

end Words

end Sys2Proof
end

section
/-! PROOFS. The opcode table (30_encoding.md R131, R138): no word fits two rows at one XLEN, so a word decodes to an instruction
exactly if it fits that instruction's row. -/

namespace Sys2Proof

section Table

variable {xl : XLen} {w : InstWord} {i : Instr} {r q : Row}

/-! ### The rows exclude each other -/

theorem Row.fits_iff : r.fits xl w = true ↔ r.xlens.admits xl = true ∧ w &&& r.mask = r.pattern := by
  rw [Row.fits, Bool.and_eq_true, beq_iff_eq]

/-- The rows differ in a bit that both masks fix, or are for different XLENs. -/
abbrev Row.Excludes (r q : Row) : Prop :=
  r.pattern &&& q.mask ≠ q.pattern &&& r.mask ∨
    r.xlens = .only32 ∧ q.xlens = .only64 ∨ r.xlens = .only64 ∧ q.xlens = .only32

theorem Row.Excludes.symm (h : r.Excludes q) : q.Excludes r := by
  rcases h with hbits | ⟨hr, hq⟩ | ⟨hr, hq⟩
  · exact .inl hbits.symm
  · exact .inr (.inr ⟨hq, hr⟩)
  · exact .inr (.inl ⟨hq, hr⟩)

theorem Row.Excludes.not_fits (h : r.Excludes q) (hr : r.fits xl w = true) : q.fits xl w ≠ true := by
  intro hq
  obtain ⟨hrx, hrw⟩ := Row.fits_iff.mp hr
  obtain ⟨hqx, hqw⟩ := Row.fits_iff.mp hq
  rcases h with hbits | ⟨hr32, hq64⟩ | ⟨hr64, hq32⟩
  · refine hbits ?_
    calc r.pattern &&& q.mask = w &&& r.mask &&& q.mask := by rw [hrw]
      _ = w &&& q.mask &&& r.mask := by rw [BitVec.and_assoc, BitVec.and_comm r.mask, BitVec.and_assoc]
      _ = q.pattern &&& r.mask := by rw [hqw]
  · rw [hr32] at hrx; rw [hq64] at hqx; cases xl <;> contradiction
  · rw [hr64] at hrx; rw [hq32] at hqx; cases xl <;> contradiction

theorem rows_exclude : rows.Pairwise Row.Excludes := by decide +kernel

theorem rows_fits_unique (hr : r ∈ rows) (hq : q ∈ rows) (hrw : r.fits xl w = true) (hqw : q.fits xl w = true) : r = q := by
  by_contra hne
  have hsymm : Std.Symm Row.Excludes := ⟨fun _ _ => Row.Excludes.symm⟩
  exact (rows_exclude.forall hr hq hne).not_fits hrw hqw

/-! ### Decoding by rows -/

theorem decode_eq_ok_iff : decode xl w = .ok i ↔ ∃ r ∈ rows, r.fits xl w = true ∧ r.build w = i := by
  unfold decode
  cases hfind : rows.find? (fun r => r.fits xl w) with
  | none =>
    have hnone : ∀ r ∈ rows, ¬ r.fits xl w = true := List.find?_eq_none.mp hfind
    exact ⟨nofun, fun ⟨r, hr, hw, _⟩ => absurd hw (hnone r hr)⟩
  | some q =>
    have hq : q ∈ rows := List.mem_of_find?_eq_some hfind
    have hqw : q.fits xl w = true := List.find?_some (p := fun r : Row => r.fits xl w) hfind
    constructor
    · intro h
      exact ⟨q, hq, hqw, Except.ok.inj h⟩
    · rintro ⟨r, hr, hrw, rfl⟩
      rw [rows_fits_unique hq hr hqw hrw]

/-- The table's row with this mask and this match has this XLEN column and gives this instruction. -/
def IsRow (mask pattern : InstWord) (xlens : RowXLen) (build : InstWord → Instr) : Prop :=
  rows.find? (fun r => r.mask == mask && r.pattern == pattern) = some ⟨mask, pattern, xlens, build⟩

theorem IsRow.decode {m p : InstWord} {xs : RowXLen} {build : InstWord → Instr} (hrow : IsRow m p xs build)
    (hx : xs.admits xl = true) (hw : w &&& m = p) : decode xl w = .ok (build w) :=
  decode_eq_ok_iff.mpr ⟨_, List.mem_of_find?_eq_some hrow, Row.fits_iff.mpr ⟨hx, hw⟩, rfl⟩

end Table

end Sys2Proof
end

section
/-! PROOFS. Decoding undoes encoding: format by format, the word of an instruction fits the instruction's row, whatever its
operands, and each operand is read back from its field (30_encoding.md R121, R131, R138). -/

namespace Sys2Proof

/-! ### Well-formedness as the rows see it -/

/-- The XLEN column of the instruction's row; `slli`, `srli` and `srai`, which have one row per XLEN, exist at both. -/
def Instr.xlens (i : Instr) : RowXLen :=
  match i.rv64Only with
  | true => .only64
  | false => .both

theorem Instr.admits_xlens (i : Instr) (xl : XLen) : i.xlens.admits xl = i.wfXLen xl := by
  unfold Instr.xlens Instr.wfXLen
  cases i.rv64Only <;> rfl

theorem Instr.wf_iff {i : Instr} {xl : XLen} :
    i.wf xl = true ↔ i.xlens.admits xl = true ∧ i.wfOffset = true ∧ i.wfShamt xl = true := by
  rw [Instr.wf, Bool.and_eq_true, Bool.and_eq_true, and_assoc, Instr.admits_xlens]

/-! ### One lemma per format: the row's mask hides the operands, and its fields give them back -/

section Formats

variable {xl : XLen} {xs : RowXLen} {rd rs1 rs2 rs3 : BitVec 5} {f3 rm : BitVec 3} {op f7 : BitVec 7}

/-- Format fixed: every bit is part of the opcode. -/
theorem decode_fixed {w : InstWord} {i : Instr} (hrow : IsRow 0xffffffff w xs fun _ => i) (hx : xs.admits xl = true) :
    decode xl w = .ok i := hrow.decode hx BitVec.and_allOnes

theorem decode_encI {imm : BitVec 12} {mk : BitVec 5 → BitVec 5 → BitVec 12 → Instr}
    (hrow : IsRow 0x707f (encI 0 0 f3 0 op) xs fun w => mk (fRd w) (fRs1 w) (fImmI w)) (hx : xs.admits xl = true) :
    decode xl (encI imm rs1 f3 rd op) = .ok (mk rd rs1 imm) := by
  refine (hrow.decode hx (encI_and_mask BitVec.and_zero BitVec.and_allOnes)).trans ?_
  rw [fRd_encI, fRs1_encI, fImmI_encI]

/-- `fence`: fm, pred and succ are the immediate. -/
theorem decode_encI_fence {fm pred succ : Nibble} {mk : Nibble → Nibble → Nibble → BitVec 5 → BitVec 5 → Instr}
    (hrow : IsRow 0x707f (encI 0 0 f3 0 op) xs fun w => mk (fFm w) (fPred w) (fSucc w) (fRs1 w) (fRd w))
    (hx : xs.admits xl = true) : decode xl (encI (fm ++ pred ++ succ) rs1 f3 rd op) = .ok (mk fm pred succ rs1 rd) := by
  refine (hrow.decode hx (encI_and_mask BitVec.and_zero BitVec.and_allOnes)).trans ?_
  rw [fFm_encI, fPred_encI, fSucc_encI, fRs1_encI, fRd_encI]

theorem decode_encU {imm : BitVec 20} {mk : BitVec 5 → BitVec 20 → Instr}
    (hrow : IsRow 0x7f (encU 0 0 op) xs fun w => mk (fRd w) (fImmU w)) (hx : xs.admits xl = true) :
    decode xl (encU imm rd op) = .ok (mk rd imm) := by
  refine (hrow.decode hx encU_and_mask).trans ?_
  rw [fRd_encU, fImmU_encU]

theorem decode_encJ {off : Off21} {mk : BitVec 5 → Off21 → Instr}
    (hrow : IsRow 0x7f (encU 0 0 op) xs fun w => mk (fRd w) (fOffJ w)) (hx : xs.admits xl = true)
    (heven : off.getLsbD 0 = false) : decode xl (encJ off rd op) = .ok (mk rd off) := by
  have hmask : encJ off rd op &&& 0x7f = encU 0 0 op := encU_and_mask
  rw [hrow.decode hx hmask, fOffJ_encJ heven, encJ_eq_encU, fRd_encU]

theorem decode_encS {imm : Imm12} {mk : BitVec 5 → BitVec 5 → Imm12 → Instr}
    (hrow : IsRow 0x707f (encI 0 0 f3 0 op) xs fun w => mk (fRs1 w) (fRs2 w) (fImmS w)) (hx : xs.admits xl = true) :
    decode xl (encS imm rs2 rs1 f3 op) = .ok (mk rs1 rs2 imm) := by
  have hmask : encS imm rs2 rs1 f3 op &&& 0x707f = encI 0 0 f3 0 op := encI_and_mask BitVec.and_zero BitVec.and_allOnes
  rw [hrow.decode hx hmask, fImmS_encS, encS_eq_encR, fRs2_encR, encR_eq_encI, fRs1_encI]

theorem decode_encB {off : Off13} {mk : BitVec 5 → BitVec 5 → Off13 → Instr}
    (hrow : IsRow 0x707f (encI 0 0 f3 0 op) xs fun w => mk (fRs1 w) (fRs2 w) (fOffB w)) (hx : xs.admits xl = true)
    (heven : off.getLsbD 0 = false) : decode xl (encB off rs2 rs1 f3 op) = .ok (mk rs1 rs2 off) := by
  have hmask : encB off rs2 rs1 f3 op &&& 0x707f = encI 0 0 f3 0 op := by
    rw [encB_eq_encR]
    exact encI_and_mask BitVec.and_zero BitVec.and_allOnes
  refine (hrow.decode hx hmask).trans ?_
  rw [fOffB_encB heven, encB_eq_encR, fRs2_encR, encR_eq_encI, fRs1_encI]

theorem decode_encR {mk : BitVec 5 → BitVec 5 → BitVec 5 → Instr}
    (hrow : IsRow 0xfe00707f (encR f7 0 0 f3 0 op) xs fun w => mk (fRd w) (fRs1 w) (fRs2 w)) (hx : xs.admits xl = true) :
    decode xl (encR f7 rs2 rs1 f3 rd op) = .ok (mk rd rs1 rs2) := by
  have hupper : (f7 ++ rs2) &&& (BitVec.allOnes 7 ++ 0#5) = f7 ++ 0#5 := append_and_append BitVec.and_allOnes BitVec.and_zero
  have hmask : encR f7 rs2 rs1 f3 rd op &&& 0xfe00707f = encR f7 0 0 f3 0 op := encI_and_mask hupper BitVec.and_allOnes
  rw [hrow.decode hx hmask, fRs2_encR, encR_eq_encI, fRd_encI, fRs1_encI]

/-- Format R-rm: funct3 is the rounding mode. -/
theorem decode_encR_rm {mk : BitVec 5 → BitVec 5 → BitVec 5 → BitVec 3 → Instr}
    (hrow : IsRow 0xfe00007f (encR f7 0 0 0 0 op) xs fun w => mk (fRd w) (fRs1 w) (fRs2 w) (fFunct3 w))
    (hx : xs.admits xl = true) : decode xl (encR f7 rs2 rs1 rm rd op) = .ok (mk rd rs1 rs2 rm) := by
  have hupper : (f7 ++ rs2) &&& (BitVec.allOnes 7 ++ 0#5) = f7 ++ 0#5 := append_and_append BitVec.and_allOnes BitVec.and_zero
  have hmask : encR f7 rs2 rs1 rm rd op &&& 0xfe00007f = encR f7 0 0 0 0 op := encI_and_mask hupper BitVec.and_zero
  rw [hrow.decode hx hmask, fRs2_encR, encR_eq_encI, fRd_encI, fRs1_encI, fFunct3_encI]

/-- Format R-1src: rs2 is part of the opcode. -/
theorem decode_encR_src {mk : BitVec 5 → BitVec 5 → Instr}
    (hrow : IsRow 0xfff0707f (encR f7 rs2 0 f3 0 op) xs fun w => mk (fRd w) (fRs1 w)) (hx : xs.admits xl = true) :
    decode xl (encR f7 rs2 rs1 f3 rd op) = .ok (mk rd rs1) := by
  have hmask : encR f7 rs2 rs1 f3 rd op &&& 0xfff0707f = encR f7 rs2 0 f3 0 op :=
    encI_and_mask BitVec.and_allOnes BitVec.and_allOnes
  rw [hrow.decode hx hmask, encR_eq_encI, fRd_encI, fRs1_encI]

/-- Format R-rm-1src. -/
theorem decode_encR_rm_src {mk : BitVec 5 → BitVec 5 → BitVec 3 → Instr}
    (hrow : IsRow 0xfff0007f (encR f7 rs2 0 0 0 op) xs fun w => mk (fRd w) (fRs1 w) (fFunct3 w)) (hx : xs.admits xl = true) :
    decode xl (encR f7 rs2 rs1 rm rd op) = .ok (mk rd rs1 rm) := by
  have hmask : encR f7 rs2 rs1 rm rd op &&& 0xfff0007f = encR f7 rs2 0 0 0 op :=
    encI_and_mask BitVec.and_allOnes BitVec.and_zero
  rw [hrow.decode hx hmask, encR_eq_encI, fRd_encI, fRs1_encI, fFunct3_encI]

theorem decode_encR4 {fmt : BitVec 2} {mk : BitVec 5 → BitVec 5 → BitVec 5 → BitVec 5 → BitVec 3 → Instr}
    (hrow : IsRow 0x0600007f (encR4 0 fmt 0 0 0 0 op) xs fun w => mk (fRd w) (fRs1 w) (fRs2 w) (fRs3 w) (fFunct3 w))
    (hx : xs.admits xl = true) : decode xl (encR4 rs3 fmt rs2 rs1 rm rd op) = .ok (mk rd rs1 rs2 rs3 rm) := by
  have hupper : (rs3 ++ fmt ++ rs2) &&& (0#5 ++ BitVec.allOnes 2 ++ 0#5) = 0#5 ++ fmt ++ 0#5 :=
    append_and_append (append_and_append BitVec.and_zero BitVec.and_allOnes) BitVec.and_zero
  have hmask : encR4 rs3 fmt rs2 rs1 rm rd op &&& 0x0600007f = encR4 0 fmt 0 0 0 0 op := encI_and_mask hupper BitVec.and_zero
  rw [hrow.decode hx hmask, fRs2_encR4, fRs3_encR4, encR4_eq_encI, fRd_encI, fRs1_encI, fFunct3_encI]

theorem decode_encAmo {f5 : BitVec 5} {aq rl : Bool} {mk : BitVec 5 → BitVec 5 → BitVec 5 → Bool → Bool → Instr}
    (hrow : IsRow 0xf800707f (encAmo f5 false false 0 0 f3 0) xs
      fun w => mk (fRd w) (fRs1 w) (fRs2 w) (fAq w) (fRl w))
    (hx : xs.admits xl = true) : decode xl (encAmo f5 aq rl rs2 rs1 f3 rd) = .ok (mk rd rs1 rs2 aq rl) := by
  have hupper : (f5 ++ BitVec.ofBool aq ++ BitVec.ofBool rl ++ rs2) &&& (BitVec.allOnes 5 ++ 0#1 ++ 0#1 ++ 0#5) =
      f5 ++ 0#1 ++ 0#1 ++ 0#5 :=
    append_and_append (append_and_append (append_and_append BitVec.and_allOnes BitVec.and_zero) BitVec.and_zero)
      BitVec.and_zero
  have hmask : encAmo f5 aq rl rs2 rs1 f3 rd &&& 0xf800707f = encAmo f5 false false 0 0 f3 0 :=
    encI_and_mask hupper BitVec.and_allOnes
  rw [hrow.decode hx hmask, fRs2_encAmo, fAq_encAmo, fRl_encAmo, encAmo_eq_encI, fRd_encI, fRs1_encI]

/-- Format R-lr: rs2 is part of the opcode. -/
theorem decode_encAmo_lr {f5 : BitVec 5} {aq rl : Bool} {mk : BitVec 5 → BitVec 5 → Bool → Bool → Instr}
    (hrow : IsRow 0xf9f0707f (encAmo f5 false false rs2 0 f3 0) xs fun w => mk (fRd w) (fRs1 w) (fAq w) (fRl w))
    (hx : xs.admits xl = true) : decode xl (encAmo f5 aq rl rs2 rs1 f3 rd) = .ok (mk rd rs1 aq rl) := by
  have hupper : (f5 ++ BitVec.ofBool aq ++ BitVec.ofBool rl ++ rs2) &&&
      (BitVec.allOnes 5 ++ 0#1 ++ 0#1 ++ BitVec.allOnes 5) = f5 ++ 0#1 ++ 0#1 ++ rs2 :=
    append_and_append (append_and_append (append_and_append BitVec.and_allOnes BitVec.and_zero) BitVec.and_zero)
      BitVec.and_allOnes
  have hmask : encAmo f5 aq rl rs2 rs1 f3 rd &&& 0xf9f0707f = encAmo f5 false false rs2 0 f3 0 :=
    encI_and_mask hupper BitVec.and_allOnes
  rw [hrow.decode hx hmask, fAq_encAmo, fRl_encAmo, encAmo_eq_encI, fRd_encI, fRs1_encI]

theorem setWidth_extract_of_lt {shamt : Shamt6} (h : shamt.toNat < 32) : (shamt.extractLsb' 0 5).setWidth 6 = shamt := by
  apply BitVec.eq_of_toNat_eq
  rw [BitVec.toNat_setWidth, BitVec.extractLsb'_toNat]
  omega

/-- The shifts by a constant have a row per XLEN: the shamt of XLEN = 32 is rs2, below a zero bit (R127, R133 item 1). -/
theorem decode_encShamt6 {f6 : BitVec 6} {shamt : Shamt6} {mk : BitVec 5 → BitVec 5 → Shamt6 → Instr}
    (hrow32 : IsRow 0xfe00707f (encR (f6 ++ 0#1) 0 0 f3 0 op) .only32 fun w => mk (fRd w) (fRs1 w) (fShamt5 w))
    (hrow64 : IsRow 0xfc00707f (encShamt6 f6 0 0 f3 0 op) .only64 fun w => mk (fRd w) (fRs1 w) (fShamt6 w))
    (hshamt : shamt.toNat < xl.bits) : decode xl (encShamt6 f6 shamt rs1 f3 rd op) = .ok (mk rd rs1 shamt) := by
  cases xl with
  | rv32 =>
    rw [← setWidth_extract_of_lt hshamt, encShamt6_setWidth]
    exact decode_encR (mk := fun rd rs1 rs2 => mk rd rs1 (rs2.setWidth 6)) hrow32 rfl
  | rv64 =>
    have hupper : (f6 ++ shamt) &&& (BitVec.allOnes 6 ++ 0#6) = f6 ++ 0#6 :=
      append_and_append BitVec.and_allOnes BitVec.and_zero
    have hmask : encShamt6 f6 shamt rs1 f3 rd op &&& 0xfc00707f = encShamt6 f6 0 0 f3 0 op :=
      encI_and_mask hupper BitVec.and_allOnes
    rw [hrow64.decode rfl hmask, fShamt6_encShamt6, encShamt6_eq_encI, fRd_encI, fRs1_encI]

end Formats

/-! ### Every instruction -/

theorem even_of_wfOffset {b : Bool} (h : (!b) = true) : b = false := by
  cases b
  · rfl
  · cases h

theorem decode_encode {xl : XLen} {i : Instr} (hwf : i.wf xl = true) : decode xl (encode i) = .ok i := by
  obtain ⟨hx, hoff, hshamt⟩ := Instr.wf_iff.mp hwf
  cases i with
  | addi | slti | sltiu | xori | ori | andi | addiw | jalr | lb | lh | lw | lbu | lhu | lwu | ld | flw | fld
  | csrrw | csrrs | csrrc | csrrwi | csrrsi | csrrci => exact decode_encI rfl hx
  | fenceI => exact decode_encI (mk := fun rd rs1 imm => .fenceI imm rs1 rd) rfl hx
  | fence => exact decode_encI_fence rfl hx
  | ecall | ebreak => exact decode_fixed rfl hx
  | lui | auipc => exact decode_encU rfl hx
  | jal => exact decode_encJ rfl hx (even_of_wfOffset hoff)
  | beq | bne | blt | bge | bltu | bgeu => exact decode_encB rfl hx (even_of_wfOffset hoff)
  | sb | sh | sw | sd | fsw | fsd => exact decode_encS rfl hx
  | slli | srli | srai => exact decode_encShamt6 rfl rfl (of_decide_eq_true hshamt)
  | add | sub | slt | sltu | sll | xor | srl | sra | or | and | addw | subw | sllw | srlw | sraw | slliw | srliw | sraiw
  | mul | mulh | mulhsu | mulhu | div | divu | rem | remu | mulw | divw | divuw | remw | remuw
  | fsgnjS | fsgnjnS | fsgnjxS | fminS | fmaxS | feqS | fltS | fleS
  | fsgnjD | fsgnjnD | fsgnjxD | fminD | fmaxD | feqD | fltD | fleD => exact decode_encR rfl hx
  | faddS | fsubS | fmulS | fdivS | faddD | fsubD | fmulD | fdivD => exact decode_encR_rm rfl hx
  | fmvXW | fmvWX | fclassS | fmvXD | fmvDX | fclassD => exact decode_encR_src rfl hx
  | fsqrtS | fcvtWS | fcvtWuS | fcvtSW | fcvtSWu | fcvtLS | fcvtLuS | fcvtSL | fcvtSLu
  | fsqrtD | fcvtWD | fcvtWuD | fcvtDW | fcvtDWu | fcvtLD | fcvtLuD | fcvtDL | fcvtDLu
  | fcvtSD | fcvtDS => exact decode_encR_rm_src rfl hx
  | fmaddS | fmsubS | fnmsubS | fnmaddS | fmaddD | fmsubD | fnmsubD | fnmaddD => exact decode_encR4 rfl hx
  | lrW | lrD => exact decode_encAmo_lr rfl hx
  | scW | scD | amoswapW | amoswapD | amoaddW | amoaddD | amoxorW | amoxorD | amoandW | amoandD | amoorW | amoorD
  | amominW | amominD | amomaxW | amomaxD | amominuW | amominuD | amomaxuW | amomaxuD => exact decode_encAmo rfl hx

/-- Settles O57: at each width the word of a well-formed instruction fits the instruction's row and no other. -/
theorem decodeOfEncodeIsTheInstruction : Obligations.DecodeOfEncodeIsTheInstruction := fun _ _ => decode_encode

end Sys2Proof
end

section
/-! PROOFS. Encoding undoes decoding: row by row, the bits that the mask fixes are the constants of the encoder, and the other
bits are the operands, so that the fields of the word make up the word again (30_encoding.md R121, R131, R138). -/

namespace Sys2Proof

section Rows

variable {w m p : InstWord} {xs : RowXLen} {build : InstWord → Instr}

/-- The row drops no bit of a word that fits it, and what it gives is well-formed wherever the row exists. -/
structure Row.Exact (r : Row) : Prop where
  encode_build : ∀ w, w &&& r.mask = r.pattern → encode (r.build w) = w
  wf_build : ∀ xl w, r.xlens.admits xl = true → (r.build w).wf xl = true

/-! ### A field that the mask fixes is the field of the match -/

theorem extract_of_fits (h : w &&& m = p) {s n : Nat} (hm : m.extractLsb' s n = BitVec.allOnes n) :
    p.extractLsb' s n = w.extractLsb' s n := by
  rw [← h, BitVec.extractLsb'_and, hm, BitVec.and_allOnes]

theorem fOpcode_of_fits (h : w &&& m = p) (hm : fOpcode m = BitVec.allOnes 7) : fOpcode p = fOpcode w := extract_of_fits h hm
theorem fFunct3_of_fits (h : w &&& m = p) (hm : fFunct3 m = BitVec.allOnes 3) : fFunct3 p = fFunct3 w := extract_of_fits h hm
theorem fFunct5_of_fits (h : w &&& m = p) (hm : fFunct5 m = BitVec.allOnes 5) : fFunct5 p = fFunct5 w := extract_of_fits h hm
theorem fFunct6_of_fits (h : w &&& m = p) (hm : fFunct6 m = BitVec.allOnes 6) : fFunct6 p = fFunct6 w := extract_of_fits h hm
theorem fFunct7_of_fits (h : w &&& m = p) (hm : fFunct7 m = BitVec.allOnes 7) : fFunct7 p = fFunct7 w := extract_of_fits h hm
theorem fFmt_of_fits (h : w &&& m = p) (hm : fFmt m = BitVec.allOnes 2) : fFmt p = fFmt w := extract_of_fits h hm
theorem fRs2_of_fits (h : w &&& m = p) (hm : fRs2 m = BitVec.allOnes 5) : fRs2 p = fRs2 w := extract_of_fits h hm

/-! ### One lemma per format -/

section AnyOperands

variable (hwf : ∀ xl w, xs.admits xl = true → (build w).wf xl = true := by rintro (_ | _) w <;> exact id)
include hwf

theorem Row.Exact.fixed (henc : ∀ w, encode (build w) = p := by intro; rfl) :
    Row.Exact ⟨0xffffffff, p, xs, build⟩ := by
  refine ⟨fun w (h : w &&& BitVec.allOnes 32 = p) => ?_, hwf⟩
  rw [henc, ← h, BitVec.and_allOnes]

theorem Row.Exact.fmtI
    (henc : ∀ w, encode (build w) = encI (fImmI w) (fRs1 w) (fFunct3 p) (fRd w) (fOpcode p) := by intro; rfl) :
    Row.Exact ⟨0x707f, p, xs, build⟩ := by
  refine ⟨fun w (h : w &&& 0x707f = p) => ?_, hwf⟩
  rw [henc, fFunct3_of_fits h rfl, fOpcode_of_fits h rfl, encI_fields]

theorem Row.Exact.fence
    (henc : ∀ w, encode (build w) = encI (fFm w ++ fPred w ++ fSucc w) (fRs1 w) (fFunct3 p) (fRd w) (fOpcode p) := by
      intro; rfl) :
    Row.Exact ⟨0x707f, p, xs, build⟩ :=
  .fmtI hwf fun w => (henc w).trans (by rw [fence_fields])

theorem Row.Exact.fmtU (henc : ∀ w, encode (build w) = encU (fImmU w) (fRd w) (fOpcode p) := by intro; rfl) :
    Row.Exact ⟨0x7f, p, xs, build⟩ := by
  refine ⟨fun w (h : w &&& 0x7f = p) => ?_, hwf⟩
  rw [henc, fOpcode_of_fits h rfl, encU_fields]

theorem Row.Exact.fmtS
    (henc : ∀ w, encode (build w) = encS (fImmS w) (fRs2 w) (fRs1 w) (fFunct3 p) (fOpcode p) := by intro; rfl) :
    Row.Exact ⟨0x707f, p, xs, build⟩ := by
  refine ⟨fun w (h : w &&& 0x707f = p) => ?_, hwf⟩
  rw [henc, fFunct3_of_fits h rfl, fOpcode_of_fits h rfl, encS_fields]

theorem Row.Exact.fmtR
    (henc : ∀ w, encode (build w) = encR (fFunct7 p) (fRs2 w) (fRs1 w) (fFunct3 p) (fRd w) (fOpcode p) := by intro; rfl) :
    Row.Exact ⟨0xfe00707f, p, xs, build⟩ := by
  refine ⟨fun w (h : w &&& 0xfe00707f = p) => ?_, hwf⟩
  rw [henc, fFunct7_of_fits h rfl, fFunct3_of_fits h rfl, fOpcode_of_fits h rfl, encR_fields]

theorem Row.Exact.fmtRrm
    (henc : ∀ w, encode (build w) = encR (fFunct7 p) (fRs2 w) (fRs1 w) (fFunct3 w) (fRd w) (fOpcode p) := by intro; rfl) :
    Row.Exact ⟨0xfe00007f, p, xs, build⟩ := by
  refine ⟨fun w (h : w &&& 0xfe00007f = p) => ?_, hwf⟩
  rw [henc, fFunct7_of_fits h rfl, fOpcode_of_fits h rfl, encR_fields]

theorem Row.Exact.fmtR1src
    (henc : ∀ w, encode (build w) = encR (fFunct7 p) (fRs2 p) (fRs1 w) (fFunct3 p) (fRd w) (fOpcode p) := by intro; rfl) :
    Row.Exact ⟨0xfff0707f, p, xs, build⟩ := by
  refine ⟨fun w (h : w &&& 0xfff0707f = p) => ?_, hwf⟩
  rw [henc, fFunct7_of_fits h rfl, fRs2_of_fits h rfl, fFunct3_of_fits h rfl, fOpcode_of_fits h rfl, encR_fields]

theorem Row.Exact.fmtRrm1src
    (henc : ∀ w, encode (build w) = encR (fFunct7 p) (fRs2 p) (fRs1 w) (fFunct3 w) (fRd w) (fOpcode p) := by intro; rfl) :
    Row.Exact ⟨0xfff0007f, p, xs, build⟩ := by
  refine ⟨fun w (h : w &&& 0xfff0007f = p) => ?_, hwf⟩
  rw [henc, fFunct7_of_fits h rfl, fRs2_of_fits h rfl, fOpcode_of_fits h rfl, encR_fields]

theorem Row.Exact.fmtR4
    (henc : ∀ w, encode (build w) = encR4 (fRs3 w) (fFmt p) (fRs2 w) (fRs1 w) (fFunct3 w) (fRd w) (fOpcode p) := by
      intro; rfl) :
    Row.Exact ⟨0x0600007f, p, xs, build⟩ := by
  refine ⟨fun w (h : w &&& 0x0600007f = p) => ?_, hwf⟩
  rw [henc, fFmt_of_fits h rfl, fOpcode_of_fits h rfl, encR4_fields]

theorem Row.Exact.amo
    (henc : ∀ w, encode (build w) = encAmo (fFunct5 p) (fAq w) (fRl w) (fRs2 w) (fRs1 w) (fFunct3 p) (fRd w) := by
      intro; rfl)
    (hop : fOpcode p = 0x2f := by rfl) :
    Row.Exact ⟨0xf800707f, p, xs, build⟩ := by
  refine ⟨fun w (h : w &&& 0xf800707f = p) => ?_, hwf⟩
  rw [henc, fFunct5_of_fits h rfl, fFunct3_of_fits h rfl, encAmo_fields ((fOpcode_of_fits h rfl).symm.trans hop)]

theorem Row.Exact.lr
    (henc : ∀ w, encode (build w) = encAmo (fFunct5 p) (fAq w) (fRl w) (fRs2 p) (fRs1 w) (fFunct3 p) (fRd w) := by
      intro; rfl)
    (hop : fOpcode p = 0x2f := by rfl) :
    Row.Exact ⟨0xf9f0707f, p, xs, build⟩ := by
  refine ⟨fun w (h : w &&& 0xf9f0707f = p) => ?_, hwf⟩
  rw [henc, fFunct5_of_fits h rfl, fRs2_of_fits h rfl, fFunct3_of_fits h rfl,
    encAmo_fields ((fOpcode_of_fits h rfl).symm.trans hop)]

end AnyOperands

/-! The rows whose operands are not any bits: an offset is even, a shamt is below XLEN. -/

theorem Row.Exact.fmtB
    (henc : ∀ w, encode (build w) = encB (fOffB w) (fRs2 w) (fRs1 w) (fFunct3 p) (fOpcode p) := by intro; rfl)
    (hwf : ∀ xl w, (build w).wf xl = (!(fOffB w).getLsbD 0 && true) := by intro _ _; rfl) :
    Row.Exact ⟨0x707f, p, .both, build⟩ := by
  refine ⟨fun w (h : w &&& 0x707f = p) => ?_, fun xl w _ => ?_⟩
  · rw [henc, fFunct3_of_fits h rfl, fOpcode_of_fits h rfl, encB_fields]
  · have heven : (fOffB w).getLsbD 0 = false := getLsbD_append_zero _
    rw [hwf, heven]; rfl

theorem Row.Exact.fmtJ
    (henc : ∀ w, encode (build w) = encJ (fOffJ w) (fRd w) (fOpcode p) := by intro; rfl)
    (hwf : ∀ xl w, (build w).wf xl = (!(fOffJ w).getLsbD 0 && true) := by intro _ _; rfl) :
    Row.Exact ⟨0x7f, p, .both, build⟩ := by
  refine ⟨fun w (h : w &&& 0x7f = p) => ?_, fun xl w _ => ?_⟩
  · rw [henc, fOpcode_of_fits h rfl, encJ_fields]
  · have heven : (fOffJ w).getLsbD 0 = false := getLsbD_append_zero _
    rw [hwf, heven]; rfl

theorem Row.Exact.shamt6
    (henc : ∀ w, encode (build w) = encShamt6 (fFunct6 p) (fShamt6 w) (fRs1 w) (fFunct3 p) (fRd w) (fOpcode p) := by
      intro; rfl)
    (hwf : ∀ xl w, (build w).wf xl = decide ((fShamt6 w).toNat < xl.bits) := by intro _ _; rfl) :
    Row.Exact ⟨0xfc00707f, p, .only64, build⟩ := by
  refine ⟨fun w (h : w &&& 0xfc00707f = p) => ?_, fun xl w hx => ?_⟩
  · rw [henc, fFunct6_of_fits h rfl, fFunct3_of_fits h rfl, fOpcode_of_fits h rfl, encShamt6_fields]
  · obtain rfl : xl = .rv64 := beq_iff_eq.mp hx
    rw [hwf]
    exact decide_eq_true (fShamt6 w).isLt

theorem fShamt5_lt (w : InstWord) : (fShamt5 w).toNat < 32 := by
  rw [fShamt5, BitVec.toNat_setWidth]
  omega

/-- Inst[25] is fixed to 0, so that the six bits above a 5-bit shamt are inst[31:26]. -/
theorem Row.Exact.shamt5
    (henc : ∀ w, encode (build w) = encShamt6 (fFunct6 p) (fShamt5 w) (fRs1 w) (fFunct3 p) (fRd w) (fOpcode p) := by
      intro; rfl)
    (htop : fFunct7 p = fFunct6 p ++ 0#1 := by rfl)
    (hwf : ∀ xl w, (build w).wf xl = decide ((fShamt5 w).toNat < xl.bits) := by intro _ _; rfl) :
    Row.Exact ⟨0xfe00707f, p, .only32, build⟩ := by
  refine .fmtR (fun xl w hx => ?_) fun w => ?_
  · obtain rfl : xl = .rv32 := beq_iff_eq.mp hx
    rw [hwf]
    exact decide_eq_true (fShamt5_lt w)
  · rw [henc, htop, ← encShamt6_setWidth]
    rfl

/-! ### Every row -/

theorem rowsArith_exact : ∀ r ∈ rowsArith, r.Exact := by
  simp only [rowsArith, List.forall_mem_cons]
  exact ⟨.fmtI, .fmtI, .fmtI, .fmtR, .fmtR, .fmtR, .fmtR, .fmtI, .fmtR, .fmtR, nofun⟩

theorem rowsTransfer_exact : ∀ r ∈ rowsTransfer, r.Exact := by
  simp only [rowsTransfer, List.forall_mem_cons]
  exact ⟨.fmtU, .fmtU, .fmtI, .fmtI, .fmtI, .fmtI, .fmtI, .fmtI, .fmtI, .fmtS, .fmtS, .fmtS, .fmtS, nofun⟩

theorem rowsLogic_exact : ∀ r ∈ rowsLogic, r.Exact := by
  simp only [rowsLogic, List.forall_mem_cons]
  exact ⟨.fmtI, .fmtI, .fmtI, .shamt5, .shamt6, .shamt5, .shamt6, .shamt5, .shamt6, .fmtR, .fmtR, .fmtR, .fmtR, .fmtR,
    .fmtR, .fmtR, .fmtR, .fmtR, .fmtR, .fmtR, .fmtR, nofun⟩

theorem rowsControl_exact : ∀ r ∈ rowsControl, r.Exact := by
  simp only [rowsControl, List.forall_mem_cons]
  exact ⟨.fmtJ, .fmtI, .fmtB, .fmtB, .fmtB, .fmtB, .fmtB, .fmtB, nofun⟩

theorem rowsOrder_exact : ∀ r ∈ rowsOrder, r.Exact := by
  simp only [rowsOrder, List.forall_mem_cons]
  exact ⟨.fence, .fmtI, .fixed, .fixed, nofun⟩

theorem rowsMulDiv_exact : ∀ r ∈ rowsMulDiv, r.Exact := by
  simp only [rowsMulDiv, List.forall_mem_cons]
  exact ⟨.fmtR, .fmtR, .fmtR, .fmtR, .fmtR, .fmtR, .fmtR, .fmtR, .fmtR, .fmtR, .fmtR, .fmtR, .fmtR, nofun⟩

theorem rowsAtomic_exact : ∀ r ∈ rowsAtomic, r.Exact := by
  simp only [rowsAtomic, List.forall_mem_cons]
  exact ⟨.lr, .lr, .amo, .amo, .amo, .amo, .amo, .amo, .amo, .amo, .amo, .amo, .amo, .amo, .amo, .amo, .amo, .amo, .amo,
    .amo, .amo, .amo, nofun⟩

theorem rowsSingle_exact : ∀ r ∈ rowsSingle, r.Exact := by
  simp only [rowsSingle, List.forall_mem_cons]
  exact ⟨.fmtI, .fmtS, .fmtR4, .fmtR4, .fmtR4, .fmtR4, .fmtRrm, .fmtRrm, .fmtRrm, .fmtRrm, .fmtRrm1src, .fmtR, .fmtR,
    .fmtR, .fmtR, .fmtR, .fmtRrm1src, .fmtRrm1src, .fmtR1src, .fmtR, .fmtR, .fmtR, .fmtR1src, .fmtRrm1src, .fmtRrm1src,
    .fmtR1src, .fmtRrm1src, .fmtRrm1src, .fmtRrm1src, .fmtRrm1src, nofun⟩

theorem rowsDouble_exact : ∀ r ∈ rowsDouble, r.Exact := by
  simp only [rowsDouble, List.forall_mem_cons]
  exact ⟨.fmtI, .fmtS, .fmtR4, .fmtR4, .fmtR4, .fmtR4, .fmtRrm, .fmtRrm, .fmtRrm, .fmtRrm, .fmtRrm1src, .fmtR, .fmtR,
    .fmtR, .fmtR, .fmtR, .fmtRrm1src, .fmtRrm1src, .fmtR, .fmtR, .fmtR, .fmtR1src, .fmtRrm1src, .fmtRrm1src, .fmtRrm1src,
    .fmtRrm1src, .fmtRrm1src, .fmtRrm1src, .fmtR1src, .fmtRrm1src, .fmtRrm1src, .fmtR1src, nofun⟩

theorem rowsCsr_exact : ∀ r ∈ rowsCsr, r.Exact := by
  simp only [rowsCsr, List.forall_mem_cons]
  exact ⟨.fmtI, .fmtI, .fmtI, .fmtI, .fmtI, .fmtI, nofun⟩

theorem rows_exact : ∀ r ∈ rows, r.Exact := by
  simp only [rows, List.forall_mem_append]
  exact ⟨⟨⟨⟨⟨⟨⟨⟨⟨rowsArith_exact, rowsTransfer_exact⟩, rowsLogic_exact⟩, rowsControl_exact⟩, rowsOrder_exact⟩,
    rowsMulDiv_exact⟩, rowsAtomic_exact⟩, rowsSingle_exact⟩, rowsDouble_exact⟩, rowsCsr_exact⟩

end Rows

theorem encode_of_decode {xl : XLen} {w : InstWord} {i : Instr} (h : decode xl w = .ok i) :
    encode i = w ∧ i.wf xl = true := by
  obtain ⟨r, hr, hfits, rfl⟩ := decode_eq_ok_iff.mp h
  obtain ⟨hx, hw⟩ := Row.fits_iff.mp hfits
  exact ⟨(rows_exact r hr).encode_build w hw, (rows_exact r hr).wf_build xl w hx⟩

/-- Settles O58: the word fits a row, whose mask and fields between them hold every bit of it. -/
theorem encodeOfDecodeIsTheWord : Obligations.EncodeOfDecodeIsTheWord := fun _ _ _ => encode_of_decode

end Sys2Proof
end

section
/-! PROOFS. Words written out: a word decodes to the well-formed instruction whose encoding it is, and the word of an instruction
of XLEN = 64 is refused at XLEN = 32 under that name (30_encoding.md R131, R132). -/

namespace Sys2Proof

section Words

variable {xl : XLen} {w : InstWord} {i j : Instr} {r : Row}

theorem decode_of_encode_eq (henc : encode i = w) (hwf : i.wf xl = true) : decode xl w = .ok i :=
  henc ▸ decode_encode hwf

/-- Settles O59: each word is the encoding of the instruction the spec names. -/
theorem writtenOutWordsDecode : Obligations.WrittenOutWordsDecode :=
  ⟨decode_of_encode_eq rfl rfl, decode_of_encode_eq rfl rfl, decode_of_encode_eq rfl rfl, decode_of_encode_eq rfl rfl,
    decode_of_encode_eq rfl rfl, decode_of_encode_eq rfl rfl, decode_of_encode_eq rfl rfl, decode_of_encode_eq rfl rfl,
    decode_of_encode_eq rfl rfl, decode_of_encode_eq rfl rfl, decode_of_encode_eq rfl rfl⟩

/-! ### The name of the refusal -/

theorem rows_fix_majorOpcode : ∀ r ∈ rows, fOpcode r.mask = BitVec.allOnes 7 ∧ fOpcode r.pattern ∈ majorOpcodes := by
  decide +kernel

theorem majorOpcodes_low : ∀ op ∈ majorOpcodes, op.extractLsb' 0 2 = 3#2 := by decide

theorem rejectReason_of_row (hr : r ∈ rows) (hw : w &&& r.mask = r.pattern) : rejectReason w = .notAtThisXLen := by
  obtain ⟨hmask, hpattern⟩ := rows_fix_majorOpcode r hr
  have hop : fOpcode w ∈ majorOpcodes := fOpcode_of_fits hw hmask ▸ hpattern
  have hlow : w.extractLsb' 0 2 = 3#2 := (extract_extract w (by decide)).symm.trans (majorOpcodes_low _ hop)
  have hused : majorOpcodes.contains (w.extractLsb' 0 7) = true := List.contains_iff_mem.mpr hop
  have hrow : rows.any (fun r => w &&& r.mask == r.pattern) = true := List.any_eq_true.mpr ⟨r, hr, beq_iff_eq.mpr hw⟩
  rw [rejectReason, if_neg (not_not.mpr hlow), hused, hrow]
  rfl

/-! ### Instructions of XLEN = 64 at XLEN = 32 -/

theorem Instr.wfShamt_rv64 (h : i.wfShamt .rv32 = true) : i.wfShamt .rv64 = true := by
  cases i with
  | slli | srli | srai => exact decide_eq_true ((of_decide_eq_true h).trans (by decide))
  | _ => exact h

theorem Instr.wf_rv64_of_rv32 (h : i.wf .rv32 = true) : i.wf .rv64 = true := by
  obtain ⟨-, hoff, hshamt⟩ := Instr.wf_iff.mp h
  refine Instr.wf_iff.mpr ⟨?_, hoff, Instr.wfShamt_rv64 hshamt⟩
  rw [Instr.admits_xlens]
  exact Bool.or_true _

theorem Instr.not_wf_rv32 (h : i.rv64Only = true) : ¬ i.wf .rv32 = true := by
  simp [Instr.wf, Instr.wfXLen, h]

/-- What the word decodes to at XLEN = 32 exists at XLEN = 64 too, so it would be the same instruction. -/
theorem decode_rv32_ne_ok (hwf : i.wf .rv64 = true) (honly : i.rv64Only = true) : decode .rv32 (encode i) ≠ .ok j := by
  intro hj
  obtain ⟨henc, hj32⟩ := encode_of_decode hj
  have hij : Except.ok i = Except.ok j := calc
    Except.ok i = decode .rv64 (encode i) := (decode_encode hwf).symm
    _ = .ok j := decode_of_encode_eq henc (Instr.wf_rv64_of_rv32 hj32)
  obtain rfl : i = j := Except.ok.inj hij
  exact Instr.not_wf_rv32 honly hj32

theorem decode_rv32_of_rv64Only (hwf : i.wf .rv64 = true) (honly : i.rv64Only = true) :
    decode .rv32 (encode i) = .error .notAtThisXLen := by
  obtain ⟨r, hr, hfits, -⟩ := decode_eq_ok_iff.mp (decode_encode hwf)
  have hname : rejectReason (encode i) = .notAtThisXLen := rejectReason_of_row hr (Row.fits_iff.mp hfits).2
  cases hfind : rows.find? (fun r => r.fits .rv32 (encode i)) with
  | none => rw [decode, hfind, hname]
  | some q =>
    have hq : decode .rv32 (encode i) = .ok (q.build (encode i)) := by rw [decode, hfind]
    exact absurd hq (decode_rv32_ne_ok hwf honly)

end Words

end Sys2Proof
end

section
/-! PROOFS. The integers of words (00_scope.md R7): the operations on words agree with those on integers modulo a power of two, and
the integers of the registers and of a sign-extended immediate at each XLEN. -/

namespace Sys2Proof.Machine

open Sys2Proof

/-! ### Congruences -/

section Congruences

variable {w : Nat} {m n : Int}

theorem toNat_add_modEq (a b : BitVec w) : ((a + b).toNat : Int) ≡ a.toNat + b.toNat [ZMOD 2 ^ w] := by
  rw [BitVec.toNat_add]
  push_cast
  exact Int.mod_modEq _ _

theorem toNat_sub_modEq (a b : BitVec w) : ((a - b).toNat : Int) ≡ a.toNat - b.toNat [ZMOD 2 ^ w] := by
  have hadd : ((a - b + b).toNat : Int) ≡ (a - b).toNat + b.toNat [ZMOD 2 ^ w] := toNat_add_modEq _ _
  rw [BitVec.sub_add_cancel] at hadd
  simpa using (hadd.sub_right b.toNat).symm

theorem toNat_modEq_toInt (v : BitVec w) : (v.toNat : Int) ≡ v.toInt [ZMOD 2 ^ w] := by
  rw [BitVec.toInt_eq_toNat_bmod]
  have hbmod : (v.toNat : Int).bmod (2 ^ w) % (2 ^ w : Nat) = v.toNat % (2 ^ w : Nat) := Int.bmod_emod
  push_cast at hbmod
  exact hbmod.symm

theorem toNat_signExtend_modEq (v : BitVec w) (hw : w ≤ 64) :
    ((v.signExtend 64).toNat : Int) ≡ v.toInt [ZMOD 2 ^ 64] := by
  rw [← BitVec.toInt_signExtend_of_le (x := v) hw]
  exact toNat_modEq_toInt _

theorem modEq_two_pow_bits (xl : XLen) (h : m ≡ n [ZMOD 2 ^ 64]) : m ≡ n [ZMOD 2 ^ xl.bits] :=
  h.of_dvd (pow_dvd_pow 2 (by cases xl <;> decide))

theorem bmod_eq_of_modEq {k : Nat} (h : m ≡ n [ZMOD k]) : m.bmod k = n.bmod k := by
  rw [← Int.emod_bmod m, h.eq, Int.emod_bmod]

end Congruences

/-! ### Values of XLEN bits -/

section Values

variable {xl : XLen} {n : Nat}

theorem narrow_toNat_cast (xl : XLen) (v : Word) : ((narrow xl v).toNat : Int) = v.toNat % 2 ^ xl.bits := by
  rw [narrow_toNat]
  push_cast
  rfl

theorem sext_modEq (imm : BitVec n) (hn : n ≤ 64) : ((sext xl imm).toNat : Int) ≡ imm.toInt [ZMOD 2 ^ xl.bits] := by
  rw [sext, narrow_toNat_cast]
  exact (Int.mod_modEq _ _).trans (modEq_two_pow_bits xl (toNat_signExtend_modEq imm hn))

theorem unsigned_sext (imm : BitVec n) (hn : n ≤ 64) : (unsigned xl (sext xl imm) : Int) = imm.toInt % 2 ^ xl.bits := by
  rw [unsigned, narrow_toNat_cast]
  exact sext_modEq imm hn

theorem signed_sext (imm : BitVec n) (hn : n ≤ 32) : signed xl (sext xl imm) = imm.toInt := by
  cases xl with
  | rv32 =>
    have hlow : ((imm.signExtend 64).setWidth 32).toInt = imm.toInt := by
      rw [BitVec.toInt_setWidth, bmod_eq_of_modEq ((toNat_signExtend_modEq imm (by omega)).of_dvd (by decide)),
        ← BitVec.toInt_signExtend_of_le hn, BitVec.toInt_bmod_cancel]
    simpa [signed, sext, narrow] using hlow
  | rv64 => exact BitVec.toInt_signExtend_of_le (by omega)

/-- signed(v) counts the upper half of the range down from 2^XLEN. -/
theorem signed_of_lt {v : Word} (hv : v.toNat < 2 ^ xl.bits) :
    signed xl v = if (v.toNat : Int) < 2 ^ (xl.bits - 1) then (v.toNat : Int) else v.toNat - 2 ^ xl.bits := by
  cases xl with
  | rv32 =>
    have hlow : (v.setWidth 32).toNat = v.toNat := (BitVec.toNat_setWidth ..).trans (Nat.mod_eq_of_lt hv)
    rw [signed, BitVec.toInt_eq_toNat_cond, hlow]
    simp only [XLen.bits]
    omega
  | rv64 =>
    rw [signed, BitVec.toInt_eq_toNat_cond]
    simp only [XLen.bits]
    omega

/-- A comparison gives the integer 1 or 0 (40_arithmetic_compare.md R204). -/
theorem toNat_ofCondition {p q : Prop} [Decidable p] [Decidable q] (h : p ↔ q) :
    ((ofCondition (decide p)).toNat : Int) = if q then 1 else 0 := by
  by_cases hp : p
  · rw [decide_eq_true hp, if_pos (h.mp hp)]; rfl
  · rw [decide_eq_false hp, if_neg (mt h.mpr hp)]; rfl

theorem ofCondition_modEq {p q : Prop} [Decidable p] [Decidable q] {m : Int} (h : p ↔ q) :
    ((ofCondition (decide p)).toNat : Int) ≡ if q then 1 else 0 [ZMOD m] :=
  congrArg (· % m) (toNat_ofCondition h)

end Values

/-! ### The registers -/

section Registers

variable (s : State) (r : XReg)

theorem State.readX_lt : (s.readX r).toNat < 2 ^ s.xlen.bits := by
  rw [← s.narrow_readX r, narrow_toNat]
  exact Nat.mod_lt _ (Nat.two_pow_pos _)

theorem State.signed_readX : signed s.xlen (s.readX r) = s.sReg r := signed_of_lt (s.readX_lt r)

theorem State.unsigned_readX : (unsigned s.xlen (s.readX r) : Int) = s.uReg r := by
  rw [unsigned, s.narrow_readX r]
  rfl

end Registers

/-! ### The low words (40_arithmetic_compare.md R208 to R210) -/

theorem lowWord_toInt {v : Word} {n : Int} (h : (v.toNat : Int) ≡ n [ZMOD 2 ^ 64]) :
    (lowWord v).toInt = n.bmod (2 ^ 32) := by
  rw [lowWord, BitVec.toInt_setWidth]
  exact bmod_eq_of_modEq (h.of_dvd (by decide))

end Sys2Proof.Machine
end

section
/-! PROOFS. What an instruction that writes one x register does: the value, pc, and the frame (10_state.md R30, R33), at both XLENs
or at XLEN = 64 only. -/

namespace Sys2Proof.Machine

open Sys2Proof

section Completes

variable {s u : State} {w : InstWord} {i : Instr} {rd : XReg} {v : Word} {n : Int}

/-! ### pc <- pc + 4 -/

theorem State.nextPc_toNat (s : State) : (s.nextPc.toNat : Int) = (s.pcInt + 4) % s.modulus := by
  rw [State.nextPc, narrow_toNat_cast]
  exact modEq_two_pow_bits s.xlen (toNat_add_modEq s.getPc 4)

theorem State.getPc_advance (s : State) : s.advance.getPc = s.nextPc := by
  rw [State.getPc, State.advance_xlen, State.advance_pc, narrow_narrow, State.nextPc, narrow_narrow]

theorem State.advances_advance (s : State) : Advances s s.advance := by
  rw [Advances, State.pcInt, State.getPc_advance, State.nextPc_toNat]

/-- What came before the advance may have changed anything but pc and the parameters. -/
theorem Advances.of_pc_eq (hparams : u.params = s.params) (hpc : u.pc = s.pc) : Advances s u.advance := by
  have hu : Advances u u.advance := u.advances_advance
  simpa only [Advances, State.pcInt, State.getPc, State.modulus, State.xlen, hparams, hpc] using hu

/-! ### x[rd] <- v -/

theorem holds_writeX_advance (hv : (v.toNat : Int) ≡ n [ZMOD s.modulus]) : Holds s (s.writeX rd v).advance rd n := by
  refine ⟨fun hrd => ?_, rfl⟩
  calc ((s.writeX rd v).advance.uReg rd)
    _ = ((s.writeX rd v).readX rd).toNat := congrArg (fun x : Word => (x.toNat : Int)) (State.readX_congr rfl rfl rd)
    _ = v.toNat % s.modulus := by rw [State.readX_writeX_same s rd v hrd, narrow_toNat_cast]; rfl
    _ = n % s.modulus := hv

theorem frame_writeX_advance : Frame s (s.writeX rd v).advance [rd] [] [] where
  params := s.writeX_params rd v
  xRegs r hr := (State.readX_congr rfl rfl r).trans (s.readX_writeX_other rd r v (mt List.mem_singleton.mpr hr))
  fRegs r _ := congrArg (·[r.toFin]) (s.writeX_f rd v)
  memory a _ := congrArg (·.read a) (s.writeX_mem rd v)
  fetches c _ := iff_of_eq (congrArg (c ∈ ·) (s.writeX_stale rd v))

theorem sameSpecials_writeX_advance : SameSpecials s (s.writeX rd v).advance :=
  ⟨s.writeX_fcsr rd v, s.writeX_res rd v, s.writeX_draws rd v⟩

/-! ### The instruction -/

/-- An instruction whose meaning is x[rd] <- v and the advance of pc. -/
theorem givesX_writeX (hexec : exec i s = (s.writeX rd v).retire) (hv : (v.toNat : Int) ≡ n [ZMOD s.modulus])
    (henc : encode i = w := by rfl) (hwf : i.wf s.xlen = true := by rfl) : GivesX s w i rd n :=
  ⟨decode_of_encode_eq henc hwf, _, hexec, holds_writeX_advance hv, .of_pc_eq (s.writeX_params rd v) (s.writeX_pc rd v),
    frame_writeX_advance, sameSpecials_writeX_advance⟩

/-- An instruction of XLEN = 64: what it does there, and its refusal at XLEN = 32 (30_encoding.md R131). -/
theorem only64_onlyRv64 {r : Result} {P : Prop} (hexec : exec i s = s.onlyRv64 i r)
    (hP : s.xlen = .rv64 → exec i s = r → P) (henc : encode i = w := by rfl) (hwf : i.wf .rv64 = true := by rfl)
    (honly : i.rv64Only = true := by rfl) : Only64 s w i P := by
  subst henc
  rw [State.onlyRv64_eq] at hexec
  refine ⟨fun h64 => ?_, fun h32 => ?_⟩
  · rw [h64] at hexec
    exact hP h64 hexec
  · rw [h32] at hexec
    exact ⟨decode_rv32_of_rv64Only hwf honly, hexec⟩

/-- A word form: x[rd] <- sext_64(t) at XLEN = 64. -/
theorem only64_givesX_signExtend {t : BitVec 32}
    (hexec : exec i s = s.onlyRv64 i (s.writeX rd (t.signExtend 64)).retire) (ht : t.toInt = n)
    (henc : encode i = w := by rfl) (hwf : i.wf .rv64 = true := by rfl) (honly : i.rv64Only = true := by rfl) :
    Only64 s w i (GivesX s w i rd n) := by
  refine only64_onlyRv64 hexec (fun h64 hrun => givesX_writeX hrun ?_ henc (h64 ▸ hwf)) henc hwf honly
  rw [← ht]
  exact modEq_two_pow_bits s.xlen (toNat_signExtend_modEq t (by decide))

end Completes

end Sys2Proof.Machine
end

section
/-! PROOFS. The arithmetic and set-less-than instructions (40_arithmetic_compare.md R201 to R210). -/

namespace Sys2Proof.Machine

open Sys2Proof

section Results

variable (s : State) (rs1 rs2 : XReg) (imm : Imm12)

theorem add_modEq : ((s.readX rs1 + s.readX rs2).toNat : Int) ≡ s.uReg rs1 + s.uReg rs2 [ZMOD s.modulus] :=
  modEq_two_pow_bits s.xlen (toNat_add_modEq _ _)

theorem sub_modEq : ((s.readX rs1 - s.readX rs2).toNat : Int) ≡ s.uReg rs1 - s.uReg rs2 [ZMOD s.modulus] :=
  modEq_two_pow_bits s.xlen (toNat_sub_modEq _ _)

theorem addi_modEq : ((s.readX rs1 + sext s.xlen imm).toNat : Int) ≡ s.uReg rs1 + imm.toInt [ZMOD s.modulus] :=
  (modEq_two_pow_bits s.xlen (toNat_add_modEq _ _)).trans ((sext_modEq imm (by decide)).add_left _)

theorem slt_iff : signed s.xlen (s.readX rs1) < signed s.xlen (s.readX rs2) ↔ s.sReg rs1 < s.sReg rs2 := by
  rw [s.signed_readX, s.signed_readX]

theorem sltu_iff : unsigned s.xlen (s.readX rs1) < unsigned s.xlen (s.readX rs2) ↔ s.uReg rs1 < s.uReg rs2 := by
  rw [← s.unsigned_readX, ← s.unsigned_readX, Int.ofNat_lt]

theorem slti_iff : signed s.xlen (s.readX rs1) < signed s.xlen (sext s.xlen imm) ↔ s.sReg rs1 < imm.toInt := by
  rw [s.signed_readX, signed_sext imm (by decide)]

theorem sltiu_iff :
    unsigned s.xlen (s.readX rs1) < unsigned s.xlen (sext s.xlen imm) ↔ s.uReg rs1 < imm.toInt % s.modulus := by
  rw [← s.unsigned_readX, State.modulus, ← unsigned_sext imm (by decide), Int.ofNat_lt]

theorem addw_toInt : (lowWord (s.readX rs1) + lowWord (s.readX rs2)).toInt = (s.uReg rs1 + s.uReg rs2).bmod (2 ^ 32) := by
  rw [lowWord, lowWord, ← BitVec.setWidth_add _ _ (by decide)]
  exact lowWord_toInt (toNat_add_modEq _ _)

theorem subw_toInt : (lowWord (s.readX rs1) - lowWord (s.readX rs2)).toInt = (s.uReg rs1 - s.uReg rs2).bmod (2 ^ 32) := by
  rw [BitVec.toInt_sub, lowWord_toInt .rfl, lowWord_toInt .rfl, Int.bmod_sub_bmod, Int.sub_bmod_bmod]
  rfl

theorem addiw_toInt : (lowWord (s.readX rs1 + imm.signExtend 64)).toInt = (s.uReg rs1 + imm.toInt).bmod (2 ^ 32) :=
  lowWord_toInt ((toNat_add_modEq _ _).trans ((toNat_signExtend_modEq imm (by decide)).add_left _))

end Results

/-- Settles O1: each instruction writes one register, with a word congruent to the stated integer. -/
theorem arithmeticGivesItsResult : Obligations.ArithmeticGivesItsResult := fun s _ rs1 rs2 imm =>
  ⟨givesX_writeX rfl (add_modEq s rs1 rs2), givesX_writeX rfl (sub_modEq s rs1 rs2),
    givesX_writeX rfl (ofCondition_modEq (slt_iff s rs1 rs2)),
    givesX_writeX rfl (ofCondition_modEq (sltu_iff s rs1 rs2)),
    givesX_writeX rfl (addi_modEq s rs1 imm),
    givesX_writeX rfl (ofCondition_modEq (slti_iff s rs1 imm)),
    givesX_writeX rfl (ofCondition_modEq (sltiu_iff s rs1 imm))⟩

/-- Settles O2: each word form runs at XLEN = 64 only, and its 32-bit result has the stated signed value. -/
theorem wordArithmeticSignExtends : Obligations.WordArithmeticSignExtends := fun s _ rs1 rs2 imm =>
  ⟨only64_givesX_signExtend rfl (addiw_toInt s rs1 imm), only64_givesX_signExtend rfl (addw_toInt s rs1 rs2),
    only64_givesX_signExtend rfl (subw_toInt s rs1 rs2)⟩

end Sys2Proof.Machine
end

section
/-! PROOFS. The bytes of a memory access: the value they form, the bytes a store leaves, and the checks before the access
(20_memory.md R70 to R77, R79). -/

namespace Sys2Proof.Machine

open Sys2Proof

/-! ### Sizes and byte addresses -/

theorem MemSize.bytes_le (n : MemSize) : n.bytes ≤ 8 := by
  cases n <;> decide

theorem two_pow_32_le_bits (xl : XLen) : 2 ^ 32 ≤ 2 ^ xl.bits := by
  cases xl <;> decide

section Bytes

variable {s t : State} {a : Word} {n k : Nat}

/-- Fewer bytes than the address space has do not wrap around onto each other. -/
theorem State.byteAddr_inj {i j : Nat} (hi : i < 2 ^ s.xlen.bits) (hj : j < 2 ^ s.xlen.bits)
    (h : s.byteAddr a i = s.byteAddr a j) : i = j := by
  have hmod : i ≡ j [MOD 2 ^ s.xlen.bits] := Nat.ModEq.add_left_cancel' a.toNat h
  exact hmod.eq_of_lt_of_lt hi hj

theorem State.byteAddr_ne_of_lt (hn : n ≤ 8) (hk : k < n) : s.byteAddr a k ≠ s.byteAddr a n := fun h => by
  have hspace : 2 ^ 32 ≤ 2 ^ s.xlen.bits := two_pow_32_le_bits s.xlen
  have heq : k = n := State.byteAddr_inj (by omega) (by omega) h
  omega

/-! ### The value of the bytes (R76) -/

theorem State.readLE_cast (s : State) (a : Word) (n : Nat) : (s.readLE a n : Int) = s.bytesLE a n := by
  induction n with
  | zero => rfl
  | succ n ih =>
    have hsum : s.bytesLE a (n + 1) = s.bytesLE a n + ((s.mem.read (s.byteAddr a n)).toNat : Int) * 256 ^ n := by
      simp [State.bytesLE, List.range_succ]
    rw [hsum, ← ih, State.readLE]
    push_cast
    rfl

theorem State.readLE_lt (s : State) (a : Word) (n : Nat) : s.readLE a n < 256 ^ n := by
  induction n with
  | zero => exact Nat.one_pos
  | succ n ih =>
    have hbyte : (s.mem.read (s.byteAddr a n)).toNat ≤ 255 := Nat.le_of_lt_succ (BitVec.isLt _)
    calc s.readLE a (n + 1)
      _ < 256 ^ n + 255 * 256 ^ n := Nat.add_lt_add_of_lt_of_le ih (Nat.mul_le_mul_right _ hbyte)
      _ = 256 ^ (n + 1) := by ring

theorem State.readMem_toNat (s : State) (a : Word) (n : MemSize) : ((s.readMem a n).toNat : Int) = s.bytesLE a n.bytes := by
  have hlt : s.readLE a n.bytes < 2 ^ 64 :=
    (s.readLE_lt a n.bytes).trans_le (Nat.pow_le_pow_right (n := 256) (by decide) n.bytes_le)
  rw [State.readMem, BitVec.toNat_ofNat, Nat.mod_eq_of_lt hlt, State.readLE_cast]

/-- Sign extension takes the value of the n bytes to the signed value of the same bits (R79). -/
theorem signExtendFrom_modEq (n : MemSize) (v : Word) :
    ((signExtendFrom n v).toNat : Int) ≡ (v.toNat : Int).bmod (2 ^ (8 * n.bytes)) [ZMOD 2 ^ 64] := by
  rw [signExtendFrom, ← BitVec.toInt_setWidth]
  exact toNat_signExtend_modEq _ (Nat.mul_le_mul_left 8 n.bytes_le)

/-! ### The bytes of a store (R77) -/

theorem extract_byte_toNat (v : Word) (k : Nat) : ((v.extractLsb' (8 * k) 8).toNat : Int) = v.toNat / 256 ^ k % 256 := by
  rw [BitVec.extractLsb'_toNat, Nat.shiftRight_eq_div_pow, pow_mul]
  push_cast
  rfl

/-- The store of the last byte leaves the bytes stored before it alone, as the addresses differ. -/
theorem State.read_writeLE_same (s : State) (a v : Word) (hn : n ≤ 8) (hk : k < n) :
    (s.writeLE a v n).mem.read (s.byteAddr a k) = v.extractLsb' (8 * k) 8 := by
  induction n with
  | zero => exact absurd hk (Nat.not_lt_zero k)
  | succ n ih =>
    rw [State.writeLE, State.storeByte_mem]
    rcases Nat.lt_succ_iff_lt_or_eq.mp hk with hlt | rfl
    · rw [Memory.read_write_other _ _ _ _ (State.byteAddr_ne_of_lt (by omega) hlt)]
      exact ih (by omega) hlt
    · exact Memory.read_write_same _ _ _

/-- A store records the byte that each stored byte replaced, and forgets none (R101). -/
theorem State.mem_stale_writeLE (s : State) (a v : Word) (hn : n ≤ 8) (c : Host.Cell) :
    c ∈ (s.writeLE a v n).stale ↔ (∃ k < n, c = (s.byteAddr a k, s.mem.read (s.byteAddr a k))) ∨ c ∈ s.stale := by
  induction n with
  | zero => simp [State.writeLE]
  | succ n ih =>
    have hread : (s.writeLE a v n).mem.read (s.byteAddr a n) = s.mem.read (s.byteAddr a n) :=
      s.read_writeLE_other a v n _ fun i hi => (State.byteAddr_ne_of_lt (by omega) hi).symm
    rw [State.writeLE, State.mem_stale_storeByte, hread, ih (by omega), Nat.exists_lt_succ_right, or_assoc, or_left_comm]

theorem State.stored_writeMem (s : State) (a : Word) (n : MemSize) (v : Word) :
    Stored s (s.writeMem a n v) a n.bytes v.toNat := by
  refine ⟨fun k hk => ?_, fun k hk => ?_, fun c hc => ?_⟩
  · rw [State.writeMem, s.read_writeLE_same a v n.bytes_le hk, extract_byte_toNat]
  · exact (s.mem_stale_writeLE a v n.bytes_le _).mpr (.inl ⟨k, hk, rfl⟩)
  · exact (s.mem_stale_writeLE a v n.bytes_le c).mpr (.inr hc)

theorem State.frame_writeMem (s : State) (a : Word) (n : MemSize) (v : Word) :
    Frame s (s.writeMem a n v) [] [] (s.bytesAt a n.bytes) where
  params := s.writeMem_params a n v
  xRegs r _ := State.readX_congr (s.writeMem_params a n v) (s.writeMem_x a n v) r
  fRegs r _ := congrArg (·[r.toFin]) (s.writeMem_f a n v)
  memory q hq := s.read_writeLE_other a v n.bytes q fun _ hi heq => hq (heq ▸ State.byteAddr_mem_bytesAt a hi)
  fetches c hc := by
    refine (s.mem_stale_writeLE a v n.bytes_le c).trans (or_iff_right ?_)
    rintro ⟨k, hk, rfl⟩
    exact hc (State.byteAddr_mem_bytesAt a hk)

theorem sameSpecials_writeMem (s : State) (a : Word) (n : MemSize) (v : Word) : SameSpecials s (s.writeMem a n v) :=
  ⟨s.writeMem_fcsr a n v, s.writeMem_res a n v, s.writeMem_draws a n v⟩

/-- The frame does not speak of pc. -/
theorem Frame.advance {xs : List XReg} {fs : List FReg} {stored : List Nat} (h : Frame s t xs fs stored) :
    Frame s t.advance xs fs stored where
  params := h.params
  xRegs r hr := (State.readX_congr rfl rfl r).trans (h.xRegs r hr)
  fRegs := h.fRegs
  memory := h.memory
  fetches := h.fetches

end Bytes

/-! ### The checks (R75, R72) -/

section Checks

variable {s : State} {w : InstWord} {i : Instr} {k : Access} {a : Word} {n : MemSize} {r : Result} {P : Prop}

theorem aligned_iff (a : Word) (n : MemSize) : aligned a n = true ↔ a.toNat % n.bytes = 0 := beq_iff_eq

/-- An instruction whose meaning is a checked access: the three answers of the access. -/
theorem accesses_of_access (n : MemSize) (hexec : exec i s = s.access k a n r) (hP : exec i s = r → P)
    (henc : encode i = w := by rfl) (hwf : i.wf s.xlen = true := by rfl) : Accesses s w i k a n.bytes P := by
  refine ⟨decode_of_encode_eq henc hwf, ?_⟩
  rw [← aligned_iff, ← State.insideMemory_iff, Ne, ← aligned_iff]
  rcases s.access_cases k a n r with ⟨hal, hres⟩ | ⟨hal, hin, hres⟩ | ⟨hal, hin, hres⟩
  · have hrun := hexec.trans hres
    simp [hal, hrun]
  · have hrun := hexec.trans hres
    simp [hal, hin, hrun]
  · simpa [hal, hin] using hP (hexec.trans hres)

end Checks

end Sys2Proof.Machine
end

section
/-! PROOFS. The loads, stores and upper-immediate instructions (41_data_transfer.md R230 to R245). -/

namespace Sys2Proof.Machine

open Sys2Proof

section Transfers

variable {s : State} {w : InstWord} {i : Instr} {rd rs1 : XReg} {imm : Imm12}

theorem effectiveAddress (s : State) (rs1 : XReg) (imm : Imm12) : EffectiveAddress s rs1 imm := by
  rw [EffectiveAddress, State.effectiveAddr, narrow_toNat_cast]
  exact addi_modEq s rs1 imm

/-! ### Loads (R231) -/

theorem loadsX_of_loadX (n : MemSize) {ext : Word → Word} {m : Int} (hexec : exec i s = s.loadX n ext rd rs1 imm)
    (hext : ((ext (s.readMem (s.effectiveAddr rs1 imm) n)).toNat : Int) ≡ m [ZMOD s.modulus])
    (henc : encode i = w := by rfl) (hwf : i.wf s.xlen = true := by rfl) :
    LoadsX s w i (s.effectiveAddr rs1 imm) n.bytes rd m :=
  accesses_of_access n hexec (fun hrun => givesX_writeX hrun hext henc hwf) henc hwf

theorem loadsX_signExtend (n : MemSize) (hexec : exec i s = s.loadX n (signExtendFrom n) rd rs1 imm)
    (henc : encode i = w := by rfl) (hwf : i.wf s.xlen = true := by rfl) :
    LoadsX s w i (s.effectiveAddr rs1 imm) n.bytes rd
      ((s.bytesLE (s.effectiveAddr rs1 imm) n.bytes).bmod (2 ^ (8 * n.bytes))) := by
  refine loadsX_of_loadX n hexec ?_ henc hwf
  rw [← s.readMem_toNat]
  exact modEq_two_pow_bits s.xlen (signExtendFrom_modEq n _)

theorem loadsX_zeroExtend (n : MemSize) (hexec : exec i s = s.loadX n (fun v => v) rd rs1 imm)
    (henc : encode i = w := by rfl) (hwf : i.wf s.xlen = true := by rfl) :
    LoadsX s w i (s.effectiveAddr rs1 imm) n.bytes rd (s.bytesLE (s.effectiveAddr rs1 imm) n.bytes) := by
  refine loadsX_of_loadX n hexec ?_ henc hwf
  rw [s.readMem_toNat]

theorem only64_loadsX_zeroExtend (n : MemSize) (hexec : exec i s = s.onlyRv64 i (s.loadX n (fun v => v) rd rs1 imm))
    (henc : encode i = w := by rfl) (hwf : i.wf .rv64 = true := by rfl) (honly : i.rv64Only = true := by rfl) :
    Only64 s w i (LoadsX s w i (s.effectiveAddr rs1 imm) n.bytes rd (s.bytesLE (s.effectiveAddr rs1 imm) n.bytes)) :=
  only64_onlyRv64 hexec (fun h64 hrun => loadsX_zeroExtend n hrun henc (h64 ▸ hwf)) henc hwf honly

/-! ### Stores (R232) -/

theorem stores_of_store (n : MemSize) {v : Word} (hexec : exec i s = s.store n v rs1 imm)
    (henc : encode i = w := by rfl) (hwf : i.wf s.xlen = true := by rfl) :
    Stores s w i (s.effectiveAddr rs1 imm) n.bytes v.toNat := by
  refine accesses_of_access n hexec (fun hrun => ⟨_, hrun, s.stored_writeMem _ n v, ?_, ?_, ?_⟩) henc hwf
  · exact .of_pc_eq (s.writeMem_params _ n v) (s.writeMem_pc _ n v)
  · exact (s.frame_writeMem _ n v).advance
  · exact sameSpecials_writeMem s _ n v

/-! ### Upper immediates (30_encoding.md R125) -/

theorem append_zeros_toInt (imm : Imm20) : (imm ++ 0#12).toInt = imm.toInt * 4096 := by
  have hshift : (imm ++ 0#12).toNat = imm.toNat * 4096 := by
    rw [BitVec.toNat_append, BitVec.toNat_zero, Nat.or_zero, Nat.shiftLeft_eq]
  rw [BitVec.toInt_eq_toNat_cond, BitVec.toInt_eq_toNat_cond, hshift]
  omega

theorem immU_modEq (s : State) (imm : Imm20) : ((immU s.xlen imm).toNat : Int) ≡ imm.toInt * 4096 [ZMOD s.modulus] := by
  rw [← append_zeros_toInt]
  exact sext_modEq _ (by decide)

theorem getPc_add_immU_modEq (s : State) (imm : Imm20) :
    ((s.getPc + immU s.xlen imm).toNat : Int) ≡ s.pcInt + imm.toInt * 4096 [ZMOD s.modulus] :=
  (modEq_two_pow_bits s.xlen (toNat_add_modEq _ _)).trans ((immU_modEq s imm).add_left _)

end Transfers

/-- Settles O3: each load is a checked access that writes the extension of the bytes' value. -/
theorem loadsGiveTheBytesInMemory : Obligations.LoadsGiveTheBytesInMemory := fun s _ rs1 imm =>
  ⟨effectiveAddress s rs1 imm, loadsX_signExtend .byte rfl, loadsX_signExtend .half rfl, loadsX_signExtend .word rfl,
    loadsX_zeroExtend .byte rfl, loadsX_zeroExtend .half rfl, only64_loadsX_zeroExtend .word rfl,
    only64_loadsX_zeroExtend .double rfl⟩

/-- Settles O4: each store is a checked access that writes the low bytes of x[rs2]; `sd` is one at XLEN = 64. -/
theorem storesWriteTheirBytesOnly : Obligations.StoresWriteTheirBytesOnly := fun s rs1 _ imm =>
  ⟨effectiveAddress s rs1 imm, stores_of_store .byte rfl, stores_of_store .half rfl, stores_of_store .word rfl,
    only64_onlyRv64 rfl fun h64 hrun => stores_of_store .double hrun rfl (h64 ▸ rfl)⟩

/-- Settles O5: each writes a word congruent to the stated integer. -/
theorem upperImmediatesGiveTheirConstant : Obligations.UpperImmediatesGiveTheirConstant := fun s _ imm =>
  ⟨givesX_writeX rfl (immU_modEq s imm), givesX_writeX rfl (getPc_add_immU_modEq s imm)⟩

end Sys2Proof.Machine
end

section
/-! PROOFS. The refusal of a word whose instruction exists at XLEN = 64 only by reason of its operands: the shift amounts of 32 or
more (30_encoding.md R131, R133 item 1). -/

namespace Sys2Proof

section Refusals

variable {xl : XLen} {w : InstWord} {i j : Instr} {e : Reject}

theorem rejectReason_of_decode_error (h : decode xl w = .error e) : rejectReason w = e := by
  unfold decode at h
  split at h
  · cases h
  · exact Except.error.inj h

theorem rejectReason_encode (hwf : i.wf xl = true) : rejectReason (encode i) = .notAtThisXLen := by
  obtain ⟨r, hr, hfits, -⟩ := decode_eq_ok_iff.mp (decode_encode hwf)
  exact rejectReason_of_row hr (Row.fits_iff.mp hfits).2

theorem encode_inj_of_wf (hi : i.wf xl = true) (hj : j.wf xl = true) (h : encode j = encode i) : i = j :=
  Except.ok.inj ((decode_encode hi).symm.trans (decode_of_encode_eq h hj))

theorem decode_rv32_of_not_wf (h64 : i.wf .rv64 = true) (h32 : ¬ i.wf .rv32 = true) :
    decode .rv32 (encode i) = .error .notAtThisXLen := by
  cases hdec : decode .rv32 (encode i) with
  | ok j =>
    obtain ⟨henc, hj⟩ := encode_of_decode hdec
    obtain rfl : i = j := encode_inj_of_wf h64 (Instr.wf_rv64_of_rv32 hj) henc
    exact absurd hj h32
  | error e => rw [← rejectReason_of_decode_error hdec, rejectReason_encode h64]

end Refusals

end Sys2Proof
end

section
/-! PROOFS. The bitwise instructions and the shifts (42_logical_shift.md R260 to R277). -/

namespace Sys2Proof.Machine

open Sys2Proof

/-! ### Bit by bit (R260 to R265) -/

theorem sext_toNat (s : State) (imm : Imm12) : (sext s.xlen imm).toNat = (imm.toInt % s.modulus).toNat := by
  rw [State.modulus, ← unsigned_sext imm (by decide), unsigned, sext, narrow_narrow, Int.toNat_natCast]

/-- An operation on words that is one on their unsigned values, with a second register or an immediate as second operand. -/
theorem givesX_bitwise {s : State} {w : InstWord} {i : Instr} {rd rs1 : XReg} {b : Word} {m : Nat}
    {op : Word → Word → Word} {f : Nat → Nat → Nat} (hop : ∀ a b : Word, (op a b).toNat = f a.toNat b.toNat)
    (hb : b.toNat = m) (hexec : exec i s = s.opRegConst op rd rs1 b)
    (henc : encode i = w := by rfl) (hwf : i.wf s.xlen = true := by rfl) :
    GivesX s w i rd (f (s.uReg rs1).toNat m : Nat) := by
  refine givesX_writeX hexec ?_ henc hwf
  rw [hop, hb]
  rfl

/-- Settles O6: the operations on words are those on the unsigned values, and the immediate is first sign-extended. -/
theorem logicalInstructionsActBitwise : Obligations.LogicalInstructionsActBitwise := fun s _ _ _ imm =>
  ⟨givesX_bitwise BitVec.toNat_and rfl rfl, givesX_bitwise BitVec.toNat_or rfl rfl,
    givesX_bitwise BitVec.toNat_xor rfl rfl, givesX_bitwise BitVec.toNat_and (sext_toNat s imm) rfl,
    givesX_bitwise BitVec.toNat_or (sext_toNat s imm) rfl, givesX_bitwise BitVec.toNat_xor (sext_toNat s imm) rfl⟩

/-! ### Shifts of integers -/

section Integers

variable {w : Nat} (v : BitVec w) (n : Nat)

theorem toNat_shiftLeft_modEq : ((v <<< n).toNat : Int) ≡ v.toNat * 2 ^ n [ZMOD 2 ^ w] := by
  rw [BitVec.toNat_shiftLeft, Nat.shiftLeft_eq]
  push_cast
  exact Int.mod_modEq _ _

theorem toNat_ushiftRight_cast : ((v >>> n).toNat : Int) = v.toNat / 2 ^ n := by
  rw [BitVec.toNat_ushiftRight, Nat.shiftRight_eq_div_pow]
  push_cast
  rfl

theorem toInt_sshiftRight_div : (v.sshiftRight n).toInt = v.toInt / 2 ^ n := by
  rw [BitVec.toInt_sshiftRight, Int.shiftRight_eq_div_pow]
  push_cast
  rfl

end Integers

/-! ### Shifts on XLEN bits (R266 to R271) -/

section Shifts

variable (s : State) (rs1 : XReg) (n : Nat)

theorem shiftAmount_eq (xl : XLen) (v : Word) : shiftAmount xl v = v.toNat % xl.bits := by
  cases xl <;> exact BitVec.extractLsb'_toNat ..

theorem State.shiftAmount_readX (r : XReg) :
    shiftAmount s.xlen (s.readX r) = (s.uReg r % s.xlen.bits).toNat := shiftAmount_eq _ _

theorem shiftLeft_modEq : ((shiftLeft s.xlen (s.readX rs1) n).toNat : Int) ≡ s.uReg rs1 * 2 ^ n [ZMOD s.modulus] := by
  rw [shiftLeft, narrow_toNat_cast]
  exact (Int.mod_modEq _ _).trans (modEq_two_pow_bits s.xlen (toNat_shiftLeft_modEq _ n))

theorem shiftRightLogical_modEq :
    ((shiftRightLogical s.xlen (s.readX rs1) n).toNat : Int) ≡ s.uReg rs1 / 2 ^ n [ZMOD s.modulus] := by
  rw [shiftRightLogical, s.narrow_readX, toNat_ushiftRight_cast]
  rfl

theorem shiftRightArith_toNat_modEq (xl : XLen) (v : Word) :
    ((shiftRightArith xl v n).toNat : Int) ≡ signed xl v / 2 ^ n [ZMOD 2 ^ xl.bits] := by
  cases xl with
  | rv32 =>
    rw [shiftRightArith, BitVec.toNat_setWidth_of_le (by decide), signed, ← toInt_sshiftRight_div]
    exact toNat_modEq_toInt _
  | rv64 =>
    rw [shiftRightArith, signed, ← toInt_sshiftRight_div]
    exact toNat_modEq_toInt _

theorem shiftRightArith_modEq :
    ((shiftRightArith s.xlen (s.readX rs1) n).toNat : Int) ≡ s.sReg rs1 / 2 ^ n [ZMOD s.modulus] := by
  rw [← s.signed_readX]
  exact shiftRightArith_toNat_modEq n s.xlen _

end Shifts

section Immediate

variable {s : State} {w : InstWord} {i : Instr} {op : Word → Nat → Word} {rd rs1 : XReg} {shamt : Shamt6} {m : Int}

theorem givesX_opShift (hexec : exec i s = s.opShift i op rd rs1 shamt) (hshamt : shamt.toNat < s.xlen.bits)
    (hv : ((op (s.readX rs1) shamt.toNat).toNat : Int) ≡ m [ZMOD s.modulus]) (henc : encode i = w := by rfl)
    (hwf : i.wf s.xlen = decide (shamt.toNat < s.xlen.bits) := by rfl) : GivesX s w i rd m :=
  givesX_writeX (hexec.trans (if_pos hshamt)) hv henc (hwf.trans (decide_eq_true hshamt))

/-- An amount that is not below XLEN is one of 32 or more at XLEN = 32. -/
theorem refuses_opShift (hexec : exec i s = s.opShift i op rd rs1 shamt) (hshamt : ¬ shamt.toNat < s.xlen.bits)
    (henc : encode i = w := by rfl) (hwf : ∀ xl, i.wf xl = decide (shamt.toNat < xl.bits) := by intro; rfl) :
    decode s.xlen w = .error .notAtThisXLen ∧ exec i s = .fault (.trap .illegalInstruction (w.setWidth 64)) := by
  subst henc
  refine ⟨?_, hexec.trans (if_neg hshamt)⟩
  cases hxl : s.xlen with
  | rv32 =>
    rw [hxl] at hshamt
    exact decode_rv32_of_not_wf ((hwf .rv64).trans (decide_eq_true shamt.isLt))
      (Bool.eq_false_iff.mp ((hwf .rv32).trans (decide_eq_false hshamt)))
  | rv64 =>
    rw [hxl] at hshamt
    exact absurd shamt.isLt hshamt

end Immediate

/-- Settles O7: each shift writes a word congruent to the product or quotient, the amount being the low bits of x[rs2] or a
shamt below XLEN; another shamt is refused. -/
theorem shiftsMultiplyAndDivide : Obligations.ShiftsMultiplyAndDivide := by
  intro s rd rs1 rs2 shamt
  rw [← s.shiftAmount_readX rs2]
  refine ⟨givesX_writeX rfl (shiftLeft_modEq s rs1 _), givesX_writeX rfl (shiftRightLogical_modEq s rs1 _),
    givesX_writeX rfl (shiftRightArith_modEq s rs1 _), fun hshamt => ?_, fun hshamt => ?_⟩
  · exact ⟨givesX_opShift rfl hshamt (shiftLeft_modEq s rs1 _),
      givesX_opShift rfl hshamt (shiftRightLogical_modEq s rs1 _),
      givesX_opShift rfl hshamt (shiftRightArith_modEq s rs1 _)⟩
  · obtain ⟨hdecL, hexecL⟩ := refuses_opShift (i := .slli rd rs1 shamt) rfl hshamt
    obtain ⟨hdecR, hexecR⟩ := refuses_opShift (i := .srli rd rs1 shamt) rfl hshamt
    exact ⟨hdecL, hexecL, hdecR, hexecR, refuses_opShift rfl hshamt⟩

/-! ### Shifts of the low word (R272 to R277) -/

section WordShifts

variable (s : State) (rs1 : XReg) (n : Nat)

theorem State.lowWord_readX_toNat : ((lowWord (s.readX rs1)).toNat : Int) = s.lowReg rs1 := by
  rw [lowWord, BitVec.toNat_setWidth]
  rfl

theorem State.lowWord_readX_toInt : (lowWord (s.readX rs1)).toInt = (s.lowReg rs1).bmod (2 ^ 32) := by
  rw [BitVec.toInt_eq_toNat_bmod, s.lowWord_readX_toNat]

theorem State.shiftAmountWord_readX (r : XReg) : shiftAmountWord (lowWord (s.readX r)) = (s.uReg r % 32).toNat := by
  have hlow : (lowWord (s.readX r)).toNat % 32 = (s.readX r).toNat % 32 := by
    rw [lowWord, BitVec.toNat_setWidth, Nat.mod_mod_of_dvd _ (by decide)]
  exact (BitVec.extractLsb'_toNat ..).trans hlow

theorem shiftLeft_lowWord_toInt :
    (lowWord (s.readX rs1) <<< n).toInt = (s.lowReg rs1 * 2 ^ n).bmod (2 ^ 32) := by
  rw [BitVec.toInt_eq_toNat_bmod, ← s.lowWord_readX_toNat]
  exact bmod_eq_of_modEq (toNat_shiftLeft_modEq _ n)

theorem ushiftRight_lowWord_toInt :
    (lowWord (s.readX rs1) >>> n).toInt = (s.lowReg rs1 / 2 ^ n).bmod (2 ^ 32) := by
  rw [BitVec.toInt_eq_toNat_bmod, toNat_ushiftRight_cast, s.lowWord_readX_toNat]

theorem sshiftRight_lowWord_toInt :
    ((lowWord (s.readX rs1)).sshiftRight n).toInt = (s.lowReg rs1).bmod (2 ^ 32) / 2 ^ n := by
  rw [toInt_sshiftRight_div, s.lowWord_readX_toInt]

end WordShifts

/-- Settles O8: at XLEN = 64 the shifted low word has the stated signed value, for either kind of amount. -/
theorem wordShiftsSignExtend : Obligations.WordShiftsSignExtend := by
  intro s rd rs1 rs2 shamt
  rw [← s.shiftAmountWord_readX rs2]
  exact ⟨only64_givesX_signExtend rfl (shiftLeft_lowWord_toInt s rs1 _),
    only64_givesX_signExtend rfl (ushiftRight_lowWord_toInt s rs1 _),
    only64_givesX_signExtend rfl (sshiftRight_lowWord_toInt s rs1 _),
    only64_givesX_signExtend rfl (shiftLeft_lowWord_toInt s rs1 _),
    only64_givesX_signExtend rfl (ushiftRight_lowWord_toInt s rs1 _),
    only64_givesX_signExtend rfl (sshiftRight_lowWord_toInt s rs1 _)⟩

end Sys2Proof.Machine
end

section
/-! PROOFS. The branches and jumps (43_control_transfer.md R300 to R308). -/

namespace Sys2Proof.Machine

open Sys2Proof

/-! ### pc <- t -/

section SetPc

variable {s t : State} {a : Word} {n : Int}

theorem narrow_of_lt {xl : XLen} (h : a.toNat < 2 ^ xl.bits) : narrow xl a = a := by
  apply BitVec.eq_of_toNat_eq
  rw [narrow_toNat, Nat.mod_eq_of_lt h]

theorem State.getPc_setPc (s : State) (h : a.toNat < 2 ^ s.xlen.bits) : (s.setPc a).getPc = a := by
  rw [State.getPc, State.setPc_xlen, State.setPc_pc, narrow_narrow, narrow_of_lt h]

/-- The later of two writes of pc stands. -/
theorem State.setPc_advance (s : State) (a : Word) : s.advance.setPc a = s.setPc a := rfl

theorem Frame.refl (s : State) : Frame s s [] [] [] :=
  ⟨rfl, fun _ _ => rfl, fun _ _ => rfl, fun _ _ => rfl, fun _ _ => .rfl⟩

/-- The frame does not speak of pc. -/
theorem Frame.setPc {xs : List XReg} {fs : List FReg} {stored : List Nat} (h : Frame s t xs fs stored) (a : Word) :
    Frame s (t.setPc a) xs fs stored where
  params := h.params
  xRegs r hr := (State.readX_congr rfl rfl r).trans (h.xRegs r hr)
  fRegs := h.fRegs
  memory := h.memory
  fetches := h.fetches

theorem Holds.setPc {rd : XReg} (h : Holds s t rd n) (a : Word) : Holds s (t.setPc a) rd n := h

theorem SameSpecials.setPc (h : SameSpecials s t) (a : Word) : SameSpecials s (t.setPc a) := h

end SetPc

/-! ### Targets (R300, R308) -/

section Targets

variable (s : State)

theorem State.mod_modulus_lt (n : Int) : n % s.modulus < s.modulus :=
  Int.emod_lt_of_pos n (pow_pos (by decide) _)

theorem State.pcRelative_toNat {n : Nat} (off : BitVec n) (hn : n ≤ 64) :
    ((s.pcRelative off).toNat : Int) = (s.pcInt + off.toInt) % s.modulus := by
  rw [State.pcRelative, narrow_toNat_cast]
  exact (modEq_two_pow_bits s.xlen (toNat_add_modEq _ _)).trans ((sext_modEq off hn).add_left _)

theorem clearBitZero_toNat (v : Word) : (v &&& ~~~(1 : Word)).toNat = v.toNat / 2 * 2 := by
  have hshift : v &&& ~~~(1 : Word) = v >>> 1 <<< 1 := by
    ext i hi
    rw [BitVec.getElem_and, BitVec.getElem_not]
    cases i with
    | zero => simp
    | succ i => simp [BitVec.getElem_one, Nat.add_comm 1, hi]
  rw [hshift, BitVec.toNat_shiftLeft, BitVec.toNat_ushiftRight, Nat.shiftLeft_eq, Nat.shiftRight_eq_div_pow]
  omega

theorem State.jalrTarget_toNat (rs1 : XReg) (imm : Imm12) :
    ((s.effectiveAddr rs1 imm &&& ~~~(1 : Word)).toNat : Int) = (s.uReg rs1 + imm.toInt) % s.modulus / 2 * 2 := by
  rw [← effectiveAddress s rs1 imm, clearBitZero_toNat]
  push_cast
  rfl

theorem State.clearBitZero_mod_modulus_lt (n : Int) : n % s.modulus / 2 * 2 < s.modulus :=
  (Int.ediv_mul_le _ (by decide)).trans_lt (s.mod_modulus_lt n)

end Targets

/-! ### Transfers (R300) -/

section Transfers

variable {s u : State} {i : Instr} {a : Word} {target : Int}

/-- A jump from u, which differs from s as the frame says: to a target that has XLEN bits, or the exception. -/
theorem transfers_of_jumpTo {xs : List XReg} {P : State → Prop} (hexec : exec i s = u.jumpTo a)
    (ha : (a.toNat : Int) = target) (hlt : target < s.modulus) (hP : P (u.setPc a))
    (hframe : Frame s (u.setPc a) xs [] []) (hspecials : SameSpecials s (u.setPc a)) : Transfers s i target xs P := by
  subst ha
  have hxlen : u.xlen = s.xlen := congrArg Params.xlen hframe.params
  have hwidth : a.toNat < 2 ^ u.xlen.bits := by
    rw [State.modulus] at hlt
    rw [hxlen]
    exact_mod_cast hlt
  have hpc : (u.setPc a).pcInt = a.toNat := by rw [State.pcInt, u.getPc_setPc hwidth]
  rcases u.jumpTo_cases a with ⟨hal, hres⟩ | ⟨hmis, hres⟩
  · exact ⟨fun _ => ⟨_, hexec.trans hres, hpc, hP, hframe, hspecials⟩, fun h => by omega⟩
  · refine ⟨fun h => by omega, fun _ => ?_⟩
    rw [BitVec.ofInt_natCast, BitVec.ofNat_toNat, BitVec.setWidth_eq]
    exact hexec.trans hres

/-- A jump that first writes the link. -/
theorem transfers_of_link {rd : XReg} (hexec : exec i s = (s.writeX rd s.nextPc).jumpTo a)
    (ha : (a.toNat : Int) = target) (hlt : target < s.modulus) :
    Transfers s i target [rd] (fun t => Holds s t rd (s.pcInt + 4)) := by
  have hlink : (s.nextPc.toNat : Int) ≡ s.pcInt + 4 [ZMOD s.modulus] := by
    rw [s.nextPc_toNat]
    exact Int.mod_modEq _ _
  refine transfers_of_jumpTo hexec ha hlt ?_ ?_ ?_ <;> rw [← State.setPc_advance]
  · exact (holds_writeX_advance hlink).setPc a
  · exact frame_writeX_advance.setPc a
  · exact sameSpecials_writeX_advance.setPc a

end Transfers

/-! ### Branches (R301 to R306) -/

section Branching

variable (s : State) (rs1 rs2 : XReg)

theorem readX_eq_iff : s.readX rs1 = s.readX rs2 ↔ s.uReg rs1 = s.uReg rs2 :=
  BitVec.toNat_inj.symm.trans Int.natCast_inj.symm

theorem sge_iff : signed s.xlen (s.readX rs2) ≤ signed s.xlen (s.readX rs1) ↔ s.sReg rs2 ≤ s.sReg rs1 := by
  rw [s.signed_readX, s.signed_readX]

theorem sgeu_iff : unsigned s.xlen (s.readX rs2) ≤ unsigned s.xlen (s.readX rs1) ↔ s.uReg rs2 ≤ s.uReg rs1 := by
  rw [← s.unsigned_readX, ← s.unsigned_readX, Int.ofNat_le]

end Branching

/-- A branch or `jal` has an encoding if its offset is even (30_encoding.md R124, R126); nothing else in its well-formedness
depends on the operands. -/
theorem decode_of_even {xl : XLen} {w : InstWord} {i : Instr} {odd : Bool} (henc : encode i = w)
    (hwf : i.wf xl = (!odd && true)) (heven : odd = false) : decode xl w = .ok i :=
  decode_of_encode_eq henc (by rw [hwf, heven]; rfl)

theorem branches_of_branch {s : State} {w : InstWord} {i : Instr} {off : Off13} {c : Bool} {p : Prop}
    (hexec : exec i s = s.branch c off) (hc : c = true ↔ p) (henc : encode i = w := by rfl)
    (hwf : i.wf s.xlen = (!off.getLsbD 0 && true) := by rfl) : Branches s w i off p := by
  refine ⟨decode_of_even henc hwf, fun hp => ?_, fun hp => ?_⟩
  · have hjump : exec i s = s.jumpTo (s.pcRelative off) := hexec.trans (if_pos (hc.mpr hp))
    exact transfers_of_jumpTo hjump (s.pcRelative_toNat off (by decide)) (s.mod_modulus_lt _) trivial
      ((Frame.refl s).setPc _) ⟨rfl, rfl, rfl⟩
  · have hretire : exec i s = s.retire := hexec.trans (if_neg (mt hc.mp hp))
    exact ⟨_, hretire, s.advances_advance, (Frame.refl s).advance, rfl, rfl, rfl⟩

/-- Settles O9: each branch tests the stated condition on the integers of its registers. -/
theorem branchesGoToTheirTargetOrOn : Obligations.BranchesGoToTheirTargetOrOn := fun s rs1 rs2 _ =>
  ⟨branches_of_branch rfl (beq_iff_eq.trans (readX_eq_iff s rs1 rs2)),
    branches_of_branch rfl (bne_iff_ne.trans (readX_eq_iff s rs1 rs2).not),
    branches_of_branch rfl (decide_eq_true_iff.trans (slt_iff s rs1 rs2)),
    branches_of_branch rfl (decide_eq_true_iff.trans (sge_iff s rs1 rs2)),
    branches_of_branch rfl (decide_eq_true_iff.trans (sltu_iff s rs1 rs2)),
    branches_of_branch rfl (decide_eq_true_iff.trans (sgeu_iff s rs1 rs2))⟩

/-! ### Jumps (R307, R308) -/

/-- Settles O10: both write the link and jump, the target being the stated sum, with bit 0 cleared for `jalr`. -/
theorem jumpsLinkAndTransfer : Obligations.JumpsLinkAndTransfer := fun s _ rs1 off imm =>
  ⟨decode_of_even rfl rfl, transfers_of_link rfl (s.pcRelative_toNat off (by decide)) (s.mod_modulus_lt _),
    decode_of_encode_eq rfl rfl, transfers_of_link rfl (s.jalrTarget_toNat rs1 imm) (s.clearBitZero_mod_modulus_lt _)⟩

end Sys2Proof.Machine
end

section
/-! PROOFS. The fences, and the two requests to the execution environment (44_memory_order_environment.md R320 to R324). -/

namespace Sys2Proof.Machine

open Sys2Proof

/-! ### The fences (R320, R322) -/

section Fences

variable {s : State} {fm pred succ : Nibble} {imm : Imm12} {rs1 rd : XReg}

theorem exec_fence : exec (.fence fm pred succ rs1 rd) s = .next s.advance := by rfl

theorem exec_fenceI : exec (.fenceI imm rs1 rd) s = .next s.syncFetch.advance := by rfl

theorem sameSpecials_advance : SameSpecials s s.advance := ⟨s.advance_fcsr, s.advance_res, s.advance_draws⟩

theorem sameSpecials_syncFetch : SameSpecials s s.syncFetch := ⟨s.syncFetch_fcsr, s.syncFetch_res, s.syncFetch_draws⟩

/-- With no older value recorded, every byte is fetched as it stands in memory (20_memory.md R101). -/
theorem State.fetchByte_of_stale_nil (hs : s.stale = []) (a k : Nat) : s.fetchByte a k = s.mem.read a :=
  s.fetchByte_eq_read a k (by rw [hs]; exact List.forall_mem_nil _)

end Fences

/-- Settles O11: `fence` is the advance of pc alone, `fence.i` the advance after every recorded older value is dropped, so a
fetch has only the byte in memory to return. -/
theorem fencesAdvanceAndSynchroniseFetches : Obligations.FencesAdvanceAndSynchroniseFetches := by
  intro s fm pred succ imm rs1 rd
  have hfence : Advances s s.advance ∧ Frame s s.advance [] [] [] ∧ SameSpecials s s.advance :=
    ⟨s.advances_advance, (Frame.refl s).advance, sameSpecials_advance⟩
  refine ⟨decode_of_encode_eq rfl rfl, ⟨s.advance, exec_fence, hfence⟩, decode_of_encode_eq rfl rfl,
    s.syncFetch.advance, exec_fenceI, .of_pc_eq s.syncFetch_params s.syncFetch_pc, s.syncFetch_stale,
    State.fetchByte_of_stale_nil s.syncFetch_stale, fun r => ?xRegs, fun r => ?fRegs, fun a => ?memory,
    s.syncFetch_params, sameSpecials_syncFetch⟩
  case xRegs => exact State.readX_congr s.syncFetch_params s.syncFetch_x r
  case fRegs => exact congrArg (·[r.toFin]) s.syncFetch_f
  case memory => exact congrArg (·.read a) s.syncFetch_mem

/-! ### The execution environment (R323, R324) -/

section Environment

variable {s : State}

theorem exec_ecall : exec .ecall s = .fault (.trap .environmentCall 0) := by rfl

theorem exec_ebreak : exec .ebreak s = .fault (.trap .breakpoint s.getPc) := by rfl

end Environment

/-- Settles O12: both words decode at either XLEN, and both meanings trap in every state. -/
theorem ecallAndEbreakEndTheRun : Obligations.EcallAndEbreakEndTheRun := fun _ =>
  ⟨decode_of_encode_eq rfl rfl, exec_ecall, rfl, decode_of_encode_eq rfl rfl, exec_ebreak, rfl⟩

end Sys2Proof.Machine
end

section
/-! PROOFS. Quotient and remainder of integers, with the corner cases and the laws of the table (45_muldiv.md R354). -/

namespace Sys2Proof.Machine

open Sys2Proof

/-! ### Quotient and remainder: the corner cases -/

section Division

variable {w : Nat}

/-- The overflow quotient 2^(w-1) is the value -2^(w-1) on w bits, so it needs no case of its own modulo 2^w. -/
theorem divSigned_modEq (hw : 1 ≤ w) (a b : Int) : divSigned w a b ≡ if b = 0 then -1 else a.tdiv b [ZMOD 2 ^ w] := by
  unfold divSigned
  split
  · rfl
  · split
    next hoverflow =>
      obtain ⟨rfl, rfl⟩ := hoverflow
      have hhalves : (2 : Int) ^ (w - 1) * 2 = 2 ^ w := pow_sub_one_mul (by omega) 2
      rw [Int.modEq_iff_dvd, Int.tdiv_neg, Int.tdiv_one]
      exact ⟨1, by omega⟩
    · rfl

/-- The overflow remainder is the exact one, 0. -/
theorem remSigned_eq (a b : Int) : remSigned w a b = if b = 0 then a else a - b * a.tdiv b := by
  unfold remSigned
  split
  · rfl
  · split
    next hoverflow =>
      obtain ⟨rfl, rfl⟩ := hoverflow
      simp
    · rfl

theorem remSigned_eq_tmod {a b : Int} (hb : b ≠ 0) : remSigned w a b = a.tmod b := by
  rw [remSigned_eq, if_neg hb, Int.tmod_def]

theorem divUnsigned_cast (a b : Nat) : (divUnsigned w a b : Int) = if (b : Int) = 0 then 2 ^ w - 1 else (a : Int) / b := by
  rw [divUnsigned, Nat.cast_ite, Nat.cast_pred (Nat.two_pow_pos w)]
  simp

theorem remUnsigned_cast (a b : Nat) : (remUnsigned a b : Int) = if (b : Int) = 0 then (a : Int) else a % b := by
  rw [remUnsigned, Nat.cast_ite]
  simp

/-! ### The laws -/

theorem divSigned_identity (hw : 1 ≤ w) (a b : Int) : b * divSigned w a b + remSigned w a b ≡ a [ZMOD 2 ^ w] := by
  have hquot := ((divSigned_modEq hw a b).mul_left b).add_right (remSigned w a b)
  rw [remSigned_eq] at hquot ⊢
  refine hquot.trans (congrArg (· % 2 ^ w) ?_)
  split
  next hb => rw [hb]; ring
  · ring

theorem abs_tmod_lt_abs (a : Int) {b : Int} (hb : b ≠ 0) : |a.tmod b| < |b| := by
  rw [Int.abs_eq_natAbs, Int.abs_eq_natAbs, Int.natAbs_tmod]
  exact_mod_cast Nat.mod_lt _ (Int.natAbs_pos.mpr hb)

theorem tmod_mul_self_nonneg (a b : Int) : 0 ≤ a.tmod b * a := by
  rcases le_total 0 a with ha | ha
  · exact mul_nonneg (Int.tmod_nonneg b ha) ha
  · have hneg : 0 ≤ (-a).tmod b := Int.tmod_nonneg b (neg_nonneg.mpr ha)
    rw [Int.neg_tmod] at hneg
    exact mul_nonneg_of_nonpos_of_nonpos (neg_nonneg.mp hneg) ha

theorem divUnsigned_identity (a b : Nat) : b * divUnsigned w a b + remUnsigned a b = a := by
  unfold divUnsigned remUnsigned
  split
  next hb => rw [hb, Nat.zero_mul, Nat.zero_add]
  · exact Nat.div_add_mod a b

theorem remUnsigned_lt (a : Nat) {b : Nat} (hb : b ≠ 0) : remUnsigned a b < b := by
  rw [remUnsigned, if_neg hb]
  exact Nat.mod_lt a (Nat.pos_of_ne_zero hb)

end Division

/-- Settles O16: the signed identity holds modulo 2^w as the quotient does, the unsigned one holds exactly, and for a divisor
other than 0 the signed remainder is that of the division truncated toward zero. -/
theorem divisionIdentityHoldsAlways : Obligations.DivisionIdentityHoldsAlways := by
  refine fun w hw => ⟨fun a b _ _ _ _ => ⟨divSigned_identity hw a b, fun hb => ?_⟩,
    fun a b ha _ => ⟨?_, remUnsigned_lt a⟩⟩
  · rw [remSigned_eq_tmod hb]
    exact ⟨abs_tmod_lt_abs a hb, tmod_mul_self_nonneg a b⟩
  · rw [divUnsigned_identity, Nat.mod_eq_of_lt ha]

end Sys2Proof.Machine
end

section
/-! PROOFS. The multiply and divide instructions (45_muldiv.md R340 to R353). -/

namespace Sys2Proof.Machine

open Sys2Proof

/-! ### The signed and the unsigned value of a register -/

section Registers

variable (s : State) (r : XReg)

theorem State.sReg_modEq_uReg : s.sReg r ≡ s.uReg r [ZMOD s.modulus] := by
  rw [State.sReg]
  split
  · rfl
  · exact Int.sub_modulus_modEq_iff.mpr rfl

theorem State.uReg_lt_modulus : s.uReg r < s.modulus := by
  rw [State.uReg, State.modulus]
  exact_mod_cast s.readX_lt r

theorem State.sReg_eq_zero_iff : s.sReg r = 0 ↔ s.uReg r = 0 := by
  have hlt : s.uReg r < s.modulus := s.uReg_lt_modulus r
  have hhalf : (0 : Int) < 2 ^ (s.xlen.bits - 1) := by positivity
  rw [State.sReg]
  split <;> omega

end Registers

/-! ### Results on XLEN bits (R341 to R348) -/

section Results

variable {s : State} {w : InstWord} {i : Instr} {rd : XReg} {m n : Int}

theorem ofInteger_modEq (xl : XLen) (m : Int) : ((ofInteger xl m).toNat : Int) ≡ m [ZMOD 2 ^ xl.bits] := by
  have hword : ((BitVec.ofInt 64 m).toNat : Int) ≡ m [ZMOD 2 ^ 64] := by
    rw [BitVec.toNat_ofInt, Int.toNat_of_nonneg (Int.emod_nonneg m (by decide))]
    exact Int.mod_modEq m _
  rw [ofInteger, narrow_toNat_cast]
  exact (Int.mod_modEq _ _).trans (modEq_two_pow_bits xl hword)

/-- An instruction that writes an integer, reduced modulo 2^XLEN. -/
theorem givesX_ofInteger (hexec : exec i s = (s.writeX rd (ofInteger s.xlen m)).retire) (hm : m ≡ n [ZMOD s.modulus])
    (henc : encode i = w := by rfl) (hwf : i.wf s.xlen = true := by rfl) : GivesX s w i rd n :=
  givesX_writeX hexec ((ofInteger_modEq s.xlen m).trans hm) henc hwf

end Results

/-- Settles O13: each instruction writes the stated integer of the exact product of the registers' integers. -/
theorem multiplyGivesTheProductHalves : Obligations.MultiplyGivesTheProductHalves := by
  intro s rd rs1 rs2
  refine ⟨givesX_ofInteger rfl ?mul, givesX_ofInteger rfl ?mulh, givesX_ofInteger rfl ?mulhsu, givesX_ofInteger rfl ?mulhu⟩
  case mul => rw [Nat.cast_mul, s.unsigned_readX, s.unsigned_readX]
  case mulh => rw [s.signed_readX, s.signed_readX]; rfl
  case mulhsu => rw [s.signed_readX, s.unsigned_readX]; rfl
  case mulhu => rw [s.unsigned_readX, s.unsigned_readX]; rfl

section Quotients

variable (s : State) (rs1 rs2 : XReg)

theorem one_le_bits (xl : XLen) : 1 ≤ xl.bits := by
  cases xl <;> decide

theorem div_modEq : divSigned s.xlen.bits (signed s.xlen (s.readX rs1)) (signed s.xlen (s.readX rs2)) ≡
    if s.uReg rs2 = 0 then -1 else (s.sReg rs1).tdiv (s.sReg rs2) [ZMOD s.modulus] := by
  simp only [s.signed_readX, ← s.sReg_eq_zero_iff]
  exact divSigned_modEq (one_le_bits s.xlen) _ _

theorem divu_eq : (divUnsigned s.xlen.bits (unsigned s.xlen (s.readX rs1)) (unsigned s.xlen (s.readX rs2)) : Int) =
    if s.uReg rs2 = 0 then s.modulus - 1 else s.uReg rs1 / s.uReg rs2 := by
  rw [divUnsigned_cast, s.unsigned_readX, s.unsigned_readX]
  rfl

/-- By zero the remainder is the dividend, whose signed and unsigned values are congruent. -/
theorem rem_modEq : remSigned s.xlen.bits (signed s.xlen (s.readX rs1)) (signed s.xlen (s.readX rs2)) ≡
    if s.uReg rs2 = 0 then s.uReg rs1 else s.sReg rs1 - s.sReg rs2 * (s.sReg rs1).tdiv (s.sReg rs2) [ZMOD s.modulus] := by
  rw [remSigned_eq]
  simp only [s.signed_readX, s.sReg_eq_zero_iff]
  split
  · exact s.sReg_modEq_uReg rs1
  · rfl

theorem remu_eq : (remUnsigned (unsigned s.xlen (s.readX rs1)) (unsigned s.xlen (s.readX rs2)) : Int) =
    if s.uReg rs2 = 0 then s.uReg rs1 else s.uReg rs1 % s.uReg rs2 := by
  rw [remUnsigned_cast, s.unsigned_readX, s.unsigned_readX]

end Quotients

/-- Settles O14: each instruction writes an integer congruent to the stated one, the overflow quotient included. -/
theorem divideGivesQuotientAndRemainder : Obligations.DivideGivesQuotientAndRemainder := fun s _ rs1 rs2 =>
  ⟨givesX_ofInteger rfl (div_modEq s rs1 rs2), givesX_ofInteger rfl (congrArg (· % s.modulus) (divu_eq s rs1 rs2)),
    givesX_ofInteger rfl (rem_modEq s rs1 rs2), givesX_ofInteger rfl (congrArg (· % s.modulus) (remu_eq s rs1 rs2))⟩

/-! ### The word forms (R349 to R353) -/

section WordResults

variable (s : State) (rs1 rs2 : XReg)

theorem State.lowReg_bmod_eq_zero_iff (r : XReg) : (s.lowReg r).bmod (2 ^ 32) = 0 ↔ s.lowReg r = 0 := by
  have hlow : s.lowReg r % (2 ^ 32 : Nat) = s.lowReg r := Int.emod_emod_of_dvd _ (dvd_refl _)
  rw [← Int.dvd_iff_bmod_eq_zero, Int.dvd_iff_emod_eq_zero, hlow]

theorem mulw_toInt : (lowWord (s.readX rs1) * lowWord (s.readX rs2)).toInt = (s.lowReg rs1 * s.lowReg rs2).bmod (2 ^ 32) := by
  rw [BitVec.toInt_mul, s.lowWord_readX_toInt, s.lowWord_readX_toInt, Int.bmod_mul_bmod, Int.mul_bmod_bmod]

theorem divw_toInt :
    (BitVec.ofInt 32 (divSigned 32 (lowWord (s.readX rs1)).toInt (lowWord (s.readX rs2)).toInt)).toInt =
      if s.lowReg rs2 = 0 then -1
      else (((s.lowReg rs1).bmod (2 ^ 32)).tdiv ((s.lowReg rs2).bmod (2 ^ 32))).bmod (2 ^ 32) := by
  rw [BitVec.toInt_ofInt, bmod_eq_of_modEq (divSigned_modEq (by decide) _ _), apply_ite (Int.bmod · _)]
  simp only [s.lowWord_readX_toInt, s.lowReg_bmod_eq_zero_iff]
  rfl

theorem divuw_toInt :
    (BitVec.ofNat 32 (divUnsigned 32 (lowWord (s.readX rs1)).toNat (lowWord (s.readX rs2)).toNat)).toInt =
      if s.lowReg rs2 = 0 then -1 else (s.lowReg rs1 / s.lowReg rs2).bmod (2 ^ 32) := by
  rw [BitVec.toInt_ofNat', divUnsigned_cast, apply_ite (Int.bmod · _), s.lowWord_readX_toNat, s.lowWord_readX_toNat]
  rfl

theorem remw_toInt :
    (BitVec.ofInt 32 (remSigned 32 (lowWord (s.readX rs1)).toInt (lowWord (s.readX rs2)).toInt)).toInt =
      if s.lowReg rs2 = 0 then (s.lowReg rs1).bmod (2 ^ 32)
      else ((s.lowReg rs1).bmod (2 ^ 32) - (s.lowReg rs2).bmod (2 ^ 32) *
        ((s.lowReg rs1).bmod (2 ^ 32)).tdiv ((s.lowReg rs2).bmod (2 ^ 32))).bmod (2 ^ 32) := by
  rw [BitVec.toInt_ofInt, remSigned_eq, apply_ite (Int.bmod · _)]
  simp only [s.lowWord_readX_toInt, s.lowReg_bmod_eq_zero_iff, Int.bmod_bmod]

theorem remuw_toInt :
    (BitVec.ofNat 32 (remUnsigned (lowWord (s.readX rs1)).toNat (lowWord (s.readX rs2)).toNat)).toInt =
      if s.lowReg rs2 = 0 then (s.lowReg rs1).bmod (2 ^ 32) else (s.lowReg rs1 % s.lowReg rs2).bmod (2 ^ 32) := by
  rw [BitVec.toInt_ofNat', remUnsigned_cast, apply_ite (Int.bmod · _), s.lowWord_readX_toNat, s.lowWord_readX_toNat]

end WordResults

/-- Settles O15: at XLEN = 64 the 32-bit result has the stated signed value, in the unsigned forms too. -/
theorem wordMultiplyDivideSignExtend : Obligations.WordMultiplyDivideSignExtend := fun s _ rs1 rs2 =>
  ⟨only64_givesX_signExtend rfl (mulw_toInt s rs1 rs2), only64_givesX_signExtend rfl (divw_toInt s rs1 rs2),
    only64_givesX_signExtend rfl (divuw_toInt s rs1 rs2), only64_givesX_signExtend rfl (remw_toInt s rs1 rs2),
    only64_givesX_signExtend rfl (remuw_toInt s rs1 rs2)⟩

end Sys2Proof.Machine
end

section
/-! PROOFS. An instruction that changes memory, the reservation or the count of draws and then writes one x register: its frame and
its effect are those of the two parts. -/

namespace Sys2Proof.Machine

open Sys2Proof

/-! ### Frames of parts -/

section Parts

variable {s t u : State} {a : Word} {k : Nat} {rd : XReg} {v : Word} {m : Int} {stored : List Nat}

theorem Frame.trans {xs xs' : List XReg} {fs fs' : List FReg} {stored' : List Nat} (h : Frame s u xs fs stored)
    (h' : Frame u t xs' fs' stored') : Frame s t (xs ++ xs') (fs ++ fs') (stored ++ stored') where
  params := h'.params.trans h.params
  xRegs r hr := by
    rw [List.mem_append, not_or] at hr
    exact (h'.xRegs r hr.2).trans (h.xRegs r hr.1)
  fRegs r hr := by
    rw [List.mem_append, not_or] at hr
    exact (h'.fRegs r hr.2).trans (h.fRegs r hr.1)
  memory q hq := by
    rw [List.mem_append, not_or] at hq
    exact (h'.memory q hq.2).trans (h.memory q hq.1)
  fetches c hc := by
    rw [List.mem_append, not_or] at hc
    exact (h'.fetches c hc.2).trans (h.fetches c hc.1)

theorem Frame.mono {xs : List XReg} {fs : List FReg} {stored' : List Nat} (h : Frame s t xs fs stored)
    (hsub : stored ⊆ stored') : Frame s t xs fs stored' :=
  { h with
    memory := fun q hq => h.memory q (mt (hsub ·) hq)
    fetches := fun c hc => h.fetches c (mt (hsub ·) hc) }

/-- The frame does not speak of the reservation. -/
theorem Frame.unreserve {xs : List XReg} {fs : List FReg} (h : Frame s t xs fs stored) :
    Frame s t.unreserve xs fs stored where
  params := h.params
  xRegs := h.xRegs
  fRegs := h.fRegs
  memory := h.memory
  fetches := h.fetches

theorem frame_reserve (s : State) (a : Word) (n : MemSize) : Frame s (s.reserve a n) [] [] [] :=
  ⟨rfl, fun _ _ => rfl, fun _ _ => rfl, fun _ _ => rfl, fun _ _ => .rfl⟩

theorem frame_drew (s : State) : Frame s s.drew [] [] [] :=
  ⟨rfl, fun _ _ => rfl, fun _ _ => rfl, fun _ _ => rfl, fun _ _ => .rfl⟩

/-! ### x[rd] <- v after an effect u on no register -/

theorem Frame.writeX_advance (h : Frame s u [] [] stored) : Frame s (u.writeX rd v).advance [rd] [] stored := by
  simpa using h.trans (frame_writeX_advance (rd := rd) (v := v))

theorem Frame.holds_writeX (h : Frame s u [] [] stored) (hv : (v.toNat : Int) ≡ m [ZMOD s.modulus]) :
    Holds s (u.writeX rd v).advance rd m := by
  have hmod : u.modulus = s.modulus := congrArg (fun p : Params => (2 : Int) ^ p.xlen.bits) h.params
  obtain ⟨hrd, hzero⟩ : Holds u (u.writeX rd v).advance rd m := holds_writeX_advance (hmod ▸ hv)
  exact ⟨hmod ▸ hrd, hzero⟩

theorem Frame.advances_writeX (h : Frame s u [] [] stored) (hpc : u.pc = s.pc) : Advances s (u.writeX rd v).advance :=
  .of_pc_eq ((u.writeX_params rd v).trans h.params) ((u.writeX_pc rd v).trans hpc)

theorem SameSpecials.writeX_advance (h : SameSpecials s u) : SameSpecials s (u.writeX rd v).advance := by
  simpa only [SameSpecials, State.advance_fcsr, State.advance_res, State.advance_draws, State.writeX_fcsr,
    State.writeX_res, State.writeX_draws] using h

theorem Stored.writeX_advance (h : Stored s u a k m) : Stored s (u.writeX rd v).advance a k m := by
  simpa only [Stored, State.advance_mem, State.advance_stale, State.writeX_mem, State.writeX_stale] using h

end Parts

end Sys2Proof.Machine
end

section
/-! PROOFS. The load-reserved, store-conditional and read-modify-write instructions (46_atomics.md R370 to R397). -/

namespace Sys2Proof.Machine

open Sys2Proof

/-! ### Load-reserved (R371) -/

section LoadReserved

variable {s : State} {w : InstWord} {i : Instr} {rd rs1 : XReg}

/-- The value that `lr` and the `amo` instructions write to x[rd]. -/
theorem signExtendFrom_readMem_modEq (s : State) (a : Word) (n : MemSize) :
    ((signExtendFrom n (s.readMem a n)).toNat : Int) ≡
      (s.bytesLE a n.bytes).bmod (2 ^ (8 * n.bytes)) [ZMOD s.modulus] := by
  rw [← s.readMem_toNat]
  exact modEq_two_pow_bits s.xlen (signExtendFrom_modEq n _)

theorem accesses_of_loadReserved (n : MemSize) (hexec : exec i s = s.loadReserved n rd rs1)
    (henc : encode i = w := by rfl) (hwf : i.wf s.xlen = true := by rfl) :
    Accesses s w i .load (s.readX rs1) n.bytes
      (∃ t, exec i s = .next t ∧ Holds s t rd ((s.bytesLE (s.readX rs1) n.bytes).bmod (2 ^ (8 * n.bytes))) ∧
        t.res = some ⟨s.readX rs1, n⟩ ∧ Advances s t ∧ Frame s t [rd] [] [] ∧ t.fcsr = s.fcsr ∧ t.draws = s.draws) := by
  refine accesses_of_access n hexec (fun hrun => ?_) henc hwf
  have hreserve : Frame s (s.reserve (s.readX rs1) n) [] [] [] := frame_reserve s _ n
  exact ⟨_, hrun, hreserve.holds_writeX (signExtendFrom_readMem_modEq s _ n), State.writeX_res _ rd _,
    hreserve.advances_writeX rfl, hreserve.writeX_advance, State.writeX_fcsr _ rd _, State.writeX_draws _ rd _⟩

end LoadReserved

/-- Settles O17: each load-reserved is a checked access that reserves and writes the sign-extended bytes. -/
theorem loadReservedReservesAndLoads : Obligations.LoadReservedReservesAndLoads := fun _ _ _ _ _ =>
  ⟨accesses_of_loadReserved .word rfl,
    only64_onlyRv64 rfl fun h64 hrun => accesses_of_loadReserved .double hrun rfl (h64 ▸ rfl)⟩

/-! ### Store-conditional (R373, R396) -/

section StoreConditional

variable {s u : State} {w : InstWord} {i : Instr} {rd rs1 rs2 : XReg}

theorem State.scEligible_iff (s : State) (a : Word) (n : MemSize) : s.scEligible a n = true ↔ s.Eligible a n.bytes := by
  rw [State.scEligible, State.Eligible]
  cases s.res with
  | none => simp
  | some r => simp [inReservationSet]

/-- What a failing store-conditional does, whether or not it took a draw before. -/
theorem scFails (hu : Frame s u [] [] []) (hpc : u.pc = s.pc) (hfcsr : u.fcsr = s.fcsr) :
    Holds s (u.unreserve.writeX rd 1).advance rd 1 ∧ (u.unreserve.writeX rd 1).advance.res = none ∧
      Advances s (u.unreserve.writeX rd 1).advance ∧ Frame s (u.unreserve.writeX rd 1).advance [rd] [] [] ∧
      (u.unreserve.writeX rd 1).advance.fcsr = s.fcsr := by
  have hnone : Frame s u.unreserve [] [] [] := hu.unreserve
  exact ⟨hnone.holds_writeX rfl, State.writeX_res _ rd 1, hnone.advances_writeX hpc, hnone.writeX_advance,
    (State.writeX_fcsr _ rd 1).trans hfcsr⟩

theorem storeConditional_of_exec (n : MemSize) (hexec : exec i s = s.storeConditional n rd rs1 rs2)
    (henc : encode i = w := by rfl) (hwf : i.wf s.xlen = true := by rfl) :
    StoreConditional s w i (s.readX rs1) n.bytes rd rs2 := by
  refine accesses_of_access n hexec (fun hrun => ?_) henc hwf
  rw [← s.scEligible_iff]
  refine ⟨fun heligible => ?_, fun hnot => ?_⟩
  · rw [if_pos heligible] at hrun
    cases hdraw : Config.scSucceeds s.draws with
    | true =>
      rw [if_pos hdraw] at hrun
      have hstore : Frame s (s.drew.writeMem (s.readX rs1) n (s.readX rs2)).unreserve [] []
          (s.bytesAt (s.readX rs1) n.bytes) :=
        ((frame_drew s).trans (s.drew.frame_writeMem (s.readX rs1) n (s.readX rs2))).unreserve
      have hbytes : Stored s (s.drew.writeMem (s.readX rs1) n (s.readX rs2)).unreserve (s.readX rs1) n.bytes (s.uReg rs2) :=
        s.drew.stored_writeMem (s.readX rs1) n (s.readX rs2)
      exact ⟨_, hrun, .inl ⟨hbytes.writeX_advance, hstore.holds_writeX rfl⟩, State.writeX_res _ rd 0,
        hstore.advances_writeX (s.drew.writeMem_pc _ n _), hstore.writeX_advance,
        (State.writeX_fcsr _ rd 0).trans (s.drew.writeMem_fcsr _ n _)⟩
    | false =>
      rw [if_neg (Bool.eq_false_iff.mp hdraw)] at hrun
      obtain ⟨hone, hres, hpc, hframe, hfcsr⟩ := scFails (rd := rd) (frame_drew s) rfl rfl
      exact ⟨_, hrun, .inr ⟨fun q => hframe.memory q List.not_mem_nil, State.writeX_stale _ rd 1, hone⟩, hres, hpc,
        hframe.mono (List.nil_subset _), hfcsr⟩
  · rw [if_neg hnot] at hrun
    exact ⟨_, hrun, scFails (Frame.refl s) rfl rfl⟩

end StoreConditional

/-- Settles O18: by eligibility and then by the draw, each store-conditional stores and writes 0, or fails and writes 1. -/
theorem storeConditionalSucceedsOnlyIfEligible : Obligations.StoreConditionalSucceedsOnlyIfEligible := fun _ _ _ _ _ _ =>
  ⟨storeConditional_of_exec .word rfl,
    only64_onlyRv64 rfl fun h64 hrun => storeConditional_of_exec .double hrun rfl (h64 ▸ rfl)⟩

/-! ### The operations of the read-modify-writes on unsigned integers (R376 to R393) -/

section Operations

variable {w : Nat} {x y : Int} (t b : BitVec w)

theorem amoSwap_toNat (_ht : (t.toNat : Int) = x) (hb : (b.toNat : Int) = y) : ((amoSwap w t b).toNat : Int) = y := hb

theorem amoAdd_toNat (ht : (t.toNat : Int) = x) (hb : (b.toNat : Int) = y) :
    ((amoAdd w t b).toNat : Int) = (x + y) % 2 ^ w := by
  rw [amoAdd, BitVec.toNat_add, ← ht, ← hb]
  push_cast
  rfl

theorem amoAnd_toNat (ht : (t.toNat : Int) = x) (hb : (b.toNat : Int) = y) :
    ((amoAnd w t b).toNat : Int) = (x.toNat &&& y.toNat : Nat) := by
  rw [amoAnd, BitVec.toNat_and, ← ht, ← hb, Int.toNat_natCast, Int.toNat_natCast]

theorem amoOr_toNat (ht : (t.toNat : Int) = x) (hb : (b.toNat : Int) = y) :
    ((amoOr w t b).toNat : Int) = (x.toNat ||| y.toNat : Nat) := by
  rw [amoOr, BitVec.toNat_or, ← ht, ← hb, Int.toNat_natCast, Int.toNat_natCast]

theorem amoXor_toNat (ht : (t.toNat : Int) = x) (hb : (b.toNat : Int) = y) :
    ((amoXor w t b).toNat : Int) = (x.toNat ^^^ y.toNat : Nat) := by
  rw [amoXor, BitVec.toNat_xor, ← ht, ← hb, Int.toNat_natCast, Int.toNat_natCast]

/-- The minima and maxima give the one operand or the other. -/
theorem toNat_ite_of_eq {p : Prop} [Decidable p] (ht : (t.toNat : Int) = x) (hb : (b.toNat : Int) = y) :
    ((if p then t else b).toNat : Int) = if p then x else y := by
  rw [← ht, ← hb]
  split <;> rfl

theorem amoMin_toNat (ht : (t.toNat : Int) = x) (hb : (b.toNat : Int) = y) :
    ((amoMin w t b).toNat : Int) = if x.bmod (2 ^ w) < y.bmod (2 ^ w) then x else y := by
  rw [amoMin, toNat_ite_of_eq t b ht hb, BitVec.toInt_eq_toNat_bmod, BitVec.toInt_eq_toNat_bmod, ht, hb]

theorem amoMax_toNat (ht : (t.toNat : Int) = x) (hb : (b.toNat : Int) = y) :
    ((amoMax w t b).toNat : Int) = if y.bmod (2 ^ w) < x.bmod (2 ^ w) then x else y := by
  rw [amoMax, toNat_ite_of_eq t b ht hb, BitVec.toInt_eq_toNat_bmod, BitVec.toInt_eq_toNat_bmod, ht, hb]

theorem amoMinu_toNat (ht : (t.toNat : Int) = x) (hb : (b.toNat : Int) = y) :
    ((amoMinu w t b).toNat : Int) = if x < y then x else y := by
  simp only [amoMinu, toNat_ite_of_eq t b ht hb, ← Int.ofNat_lt, ht, hb]

theorem amoMaxu_toNat (ht : (t.toNat : Int) = x) (hb : (b.toNat : Int) = y) :
    ((amoMaxu w t b).toNat : Int) = if y < x then x else y := by
  simp only [amoMaxu, toNat_ite_of_eq t b ht hb, ← Int.ofNat_lt, ht, hb]

end Operations

/-! ### The read-modify-writes (R375) -/

section Amos

variable {s : State} {w : InstWord} {i : Instr} {rd rs1 rs2 : XReg} {m new : Int}

/-- The value read has n bytes, so the operand of the operation is the whole of it. -/
theorem State.readMem_setWidth_toNat (s : State) (a : Word) (n : MemSize) :
    (((s.readMem a n).setWidth (8 * n.bytes)).toNat : Int) = s.bytesLE a n.bytes := by
  have hlt : (s.readMem a n).toNat < 2 ^ (8 * n.bytes) := by
    have hval : (s.readMem a n).toNat = s.readLE a n.bytes := by
      exact_mod_cast (s.readMem_toNat a n).trans (s.readLE_cast a n.bytes).symm
    rw [hval, pow_mul]
    exact s.readLE_lt a n.bytes
  rw [BitVec.toNat_setWidth, Nat.mod_eq_of_lt hlt, s.readMem_toNat]

/-- Memory gets what the operation gives for the old n bytes and the low n bytes m of x[rs2]. -/
theorem amo_of_exec (n : MemSize) {op : BitVec (8 * n.bytes) → BitVec (8 * n.bytes) → BitVec (8 * n.bytes)}
    (hexec : exec i s = s.amo n op rd rs1 rs2) (hm : (((s.readX rs2).setWidth (8 * n.bytes)).toNat : Int) = m)
    (hop : ∀ t b, (t.toNat : Int) = s.bytesLE (s.readX rs1) n.bytes → (b.toNat : Int) = m → ((op t b).toNat : Int) = new)
    (henc : encode i = w := by rfl) (hwf : i.wf s.xlen = true := by rfl) :
    Amo s w i (s.readX rs1) n.bytes rd new := by
  refine accesses_of_access n hexec (fun hrun => ?_) henc hwf
  have hstore := s.frame_writeMem (s.readX rs1) n (amoResult n op (s.readMem (s.readX rs1) n) (s.readX rs2))
  have hnew : ((amoResult n op (s.readMem (s.readX rs1) n) (s.readX rs2)).toNat : Int) = new := by
    rw [amoResult, BitVec.toNat_setWidth_of_le (Nat.mul_le_mul_left 8 n.bytes_le)]
    exact hop _ _ (s.readMem_setWidth_toNat _ n) hm
  have hbytes := hnew ▸ s.stored_writeMem (s.readX rs1) n (amoResult n op (s.readMem (s.readX rs1) n) (s.readX rs2))
  exact ⟨_, hrun, hbytes.writeX_advance, hstore.holds_writeX (signExtendFrom_readMem_modEq s _ n),
    hstore.advances_writeX (s.writeMem_pc _ n _), hstore.writeX_advance, (sameSpecials_writeMem s _ n _).writeX_advance⟩

theorem only64_amo {op : BitVec 64 → BitVec 64 → BitVec 64}
    (hexec : exec i s = s.onlyRv64 i (s.amo .double op rd rs1 rs2))
    (hop : ∀ t b, (t.toNat : Int) = s.bytesLE (s.readX rs1) 8 → (b.toNat : Int) = s.uReg rs2 → ((op t b).toNat : Int) = new)
    (henc : encode i = w := by rfl) (hwf : i.wf .rv64 = true := by rfl) (honly : i.rv64Only = true := by rfl) :
    Only64 s w i (Amo s w i (s.readX rs1) 8 rd new) := by
  have hreg : (((s.readX rs2).setWidth 64).toNat : Int) = s.uReg rs2 := by rw [BitVec.setWidth_eq, State.uReg]
  exact only64_onlyRv64 hexec (fun h64 hrun => amo_of_exec .double hrun hreg hop henc (h64 ▸ hwf)) henc hwf honly

end Amos

/-- Settles O19: each word form stores its operation on the old word and the low word of x[rs2]. -/
theorem wordAtomicsUpdateMemory : Obligations.WordAtomicsUpdateMemory := by
  intro s rd rs1 rs2 aq rl
  have hlow : (((s.readX rs2).setWidth 32).toNat : Int) = s.lowReg rs2 := s.lowWord_readX_toNat rs2
  exact ⟨amo_of_exec .word rfl hlow amoSwap_toNat, amo_of_exec .word rfl hlow amoAdd_toNat,
    amo_of_exec .word rfl hlow amoAnd_toNat, amo_of_exec .word rfl hlow amoOr_toNat,
    amo_of_exec .word rfl hlow amoXor_toNat, amo_of_exec .word rfl hlow amoMin_toNat,
    amo_of_exec .word rfl hlow amoMax_toNat, amo_of_exec .word rfl hlow amoMinu_toNat,
    amo_of_exec .word rfl hlow amoMaxu_toNat⟩

/-- Settles O20: each doubleword form is at XLEN = 64 its operation on the old doubleword and x[rs2]. -/
theorem doubleAtomicsUpdateMemory : Obligations.DoubleAtomicsUpdateMemory := fun _ _ _ _ _ _ =>
  ⟨only64_amo rfl amoSwap_toNat, only64_amo rfl amoAdd_toNat, only64_amo rfl amoAnd_toNat, only64_amo rfl amoOr_toNat,
    only64_amo rfl amoXor_toNat, only64_amo rfl amoMin_toNat, only64_amo rfl amoMax_toNat, only64_amo rfl amoMinu_toNat,
    only64_amo rfl amoMaxu_toNat⟩

end Sys2Proof.Machine
end

section
/-! PROOFS. What an instruction that writes an f register, or an x register and flags, does: the value, the flags, pc, and the frame
(47_fp_single.md R401, R402, R418), in the rounding mode its field selects (R404, R405). -/

namespace Sys2Proof.Machine

open Sys2Proof

/-! ### Boxes (R401) -/

theorem State.readF_writeFmt_same (s : State) (F : Fmt) (r : FReg) (v : Pattern F) :
    (s.writeFmt F r v).readF r = boxed F v := by
  cases F <;> exact s.readF_writeF_same r _

theorem unbox_eq_ite (r : BitVec 64) :
    unbox r = if r.toNat / 2 ^ 32 = 0xffffffff then r.setWidth 32 else 0x7fc00000 := by
  have hhigh : r.extractLsb' 32 32 = 0xffffffff#32 ↔ r.toNat / 2 ^ 32 = 0xffffffff := by
    rw [← BitVec.toNat_inj, BitVec.extractLsb'_toNat, Nat.shiftRight_eq_div_pow]
    have hr : r.toNat < 2 ^ 64 := r.isLt
    simp only [BitVec.toNat_ofNat]
    omega
  simp only [unbox, hhigh]

/-- Settles O22: the high half of a register decides whether it is read as a single. -/
theorem singlesAreBoxed : Obligations.SinglesAreBoxed := by
  refine ⟨fun v => ⟨rfl, unbox_box v⟩, fun r => ⟨fun hbox => ?_, fun hbox => ?_⟩,
    fun s r v => ⟨rfl, s.readF_writeF_same r _⟩, fun s r v => ⟨rfl, s.readF_writeF_same r v⟩⟩
  · rw [unbox_eq_ite, if_pos hbox, BitVec.toNat_setWidth]
  · rw [unbox_eq_ite, if_neg hbox]

/-! ### f[rd] <- v and the flags (R418) -/

section Writes

variable {s t : State}

theorem frame_writeFmt (s : State) (F : Fmt) (fd : FReg) (p : Pattern F) : Frame s (s.writeFmt F fd p) [] [fd] [] where
  params := s.writeFmt_params F fd p
  xRegs r _ := State.readX_congr (s.writeFmt_params F fd p) (s.writeFmt_x F fd p) r
  fRegs r hr := s.readF_writeFmt_other F fd r p (mt List.mem_singleton.mpr hr)
  memory a _ := congrArg (·.read a) (s.writeFmt_mem F fd p)
  fetches c _ := iff_of_eq (congrArg (c ∈ ·) (s.writeFmt_stale F fd p))

/-- The frame does not speak of fcsr. -/
theorem Frame.accrue {xs : List XReg} {fs : List FReg} {stored : List Nat} (h : Frame s t xs fs stored)
    (fl : BitVec 5) : Frame s (t.accrue fl) xs fs stored where
  params := h.params
  xRegs r hr := (State.readX_congr rfl rfl r).trans (h.xRegs r hr)
  fRegs := h.fRegs
  memory := h.memory
  fetches := h.fetches

theorem fflags_of_fcsr_eq (h : t.fcsr = s.fcsr) : t.fflags = s.fflags := congrArg (·.extractLsb' 0 5) h

theorem frm_of_fcsr_eq (h : t.fcsr = s.fcsr) : t.frm = s.frm := congrArg (·.extractLsb' 5 3) h

end Writes

/-! ### The instruction -/

section Completes

variable {s : State} {w : InstWord} {i : Instr} {F : Fmt} {fd : FReg} {rd : XReg} {v : Word} {n : Int}

theorem givesF_finishF {r : Flagged F} (hexec : exec i s = s.finishF F fd r) (henc : encode i = w)
    (hwf : i.wf s.xlen = true) : GivesF s w i F fd r := by
  refine ⟨decode_of_encode_eq henc hwf, _, hexec, s.readF_writeFmt_same F fd r.1, ?_, ?_, ?_, ?_, ?_, ?_⟩
  · exact ((s.writeFmt F fd r.1).fflags_accrue r.2).trans
      (congrArg (· ||| r.2) (fflags_of_fcsr_eq (s.writeFmt_fcsr F fd r.1)))
  · exact ((s.writeFmt F fd r.1).frm_accrue r.2).trans (frm_of_fcsr_eq (s.writeFmt_fcsr F fd r.1))
  · exact .of_pc_eq (s.writeFmt_params F fd r.1) (s.writeFmt_pc F fd r.1)
  · exact ((frame_writeFmt s F fd r.1).accrue r.2).advance
  · exact s.writeFmt_res F fd r.1
  · exact s.writeFmt_draws F fd r.1

/-- An instruction that leaves fcsr alone raises no flag. -/
theorem givesF_writeFmt {p : Pattern F} (hexec : exec i s = (s.writeFmt F fd p).retire) (henc : encode i = w)
    (hwf : i.wf s.xlen = true) : GivesF s w i F fd (p, 0) := by
  refine ⟨decode_of_encode_eq henc hwf, _, hexec, s.readF_writeFmt_same F fd p, ?_, ?_, ?_, ?_, ?_, ?_⟩
  · exact (fflags_of_fcsr_eq (s.writeFmt_fcsr F fd p)).trans BitVec.or_zero.symm
  · exact frm_of_fcsr_eq (s.writeFmt_fcsr F fd p)
  · exact .of_pc_eq (s.writeFmt_params F fd p) (s.writeFmt_pc F fd p)
  · exact (frame_writeFmt s F fd p).advance
  · exact s.writeFmt_res F fd p
  · exact s.writeFmt_draws F fd p

theorem givesXFlags_finishX {fl : BitVec 5} (hexec : exec i s = s.finishX rd v fl)
    (hv : (v.toNat : Int) ≡ n [ZMOD s.modulus]) (henc : encode i = w) (hwf : i.wf s.xlen = true) :
    GivesXFlags s w i rd n fl := by
  have hframe : Frame s (s.writeX rd v).advance [rd] [] [] := frame_writeX_advance
  have hholds : Holds s (s.writeX rd v).advance rd n := holds_writeX_advance hv
  refine ⟨decode_of_encode_eq henc hwf, _, hexec, hholds, ?_, ?_, ?_, ?_, ?_, ?_⟩
  · exact ((s.writeX rd v).fflags_accrue fl).trans (congrArg (· ||| fl) (fflags_of_fcsr_eq (s.writeX_fcsr rd v)))
  · exact ((s.writeX rd v).frm_accrue fl).trans (frm_of_fcsr_eq (s.writeX_fcsr rd v))
  · exact .of_pc_eq (s.writeX_params rd v) (s.writeX_pc rd v)
  · exact hframe.accrue fl
  · exact s.writeX_res rd v
  · exact s.writeX_draws rd v

end Completes

/-! ### The rounding mode (R404, R405) -/

theorem modeOfCode_eq_some_iff (c : BitVec 3) (m : RMode) : modeOfCode c = some m ↔ c = m.code := by
  cases m <;> revert c <;> decide

theorem effectiveMode_eq_some_iff (rm frm : BitVec 3) (m : RMode) : effectiveMode rm frm = some m ↔ Selects rm frm m := by
  have hstatic : 0b111 ≠ m.code := by cases m <;> decide
  rw [effectiveMode, Selects]
  by_cases hrm : rm = 0b111
  · subst hrm
    rw [if_pos rfl, modeOfCode_eq_some_iff, or_iff_right hstatic, and_iff_right rfl]
  · rw [if_neg hrm, modeOfCode_eq_some_iff, or_iff_left fun h => hrm h.1]

/-- A rounding instruction: what it does in each mode, and its refusal where none is selected. -/
theorem inMode_rounding {s : State} {w : InstWord} {i : Instr} {rm : RmField} {k : RMode → Result} {P : RMode → Prop}
    (hexec : exec i s = s.rounding i rm k) (hP : ∀ m, exec i s = k m → P m) (henc : encode i = w)
    (hwf : i.wf s.xlen = true) : InMode s w i rm P := by
  refine ⟨decode_of_encode_eq henc hwf, fun m hm => ?_, fun hnone => ?_⟩
  · have hmode : effectiveMode rm s.frm = some m := (effectiveMode_eq_some_iff _ _ _).mpr hm
    refine hP m (hexec.trans ?_)
    rw [State.rounding, hmode]
  · have hmode : effectiveMode rm s.frm = none :=
      Option.eq_none_iff_forall_ne_some.mpr fun m hm => hnone m ((effectiveMode_eq_some_iff _ _ _).mp hm)
    rw [hexec, State.rounding, hmode, ← henc]
    rfl

end Sys2Proof.Machine
end

section
/-! PROOFS. The floating-point instructions (47_fp_single.md R420 to R449, 48_fp_double.md R460 to R491): each is a shared shape
applied to an operation of the numerics. -/

namespace Sys2Proof.Machine

open Sys2Proof

/-! ### Loads and stores (R420, R421, R460, R461) -/

theorem accesses_of_loadF {s : State} {w : InstWord} {i : Instr} {fd : FReg} {rs1 : XReg} {imm : Imm12} (n : MemSize)
    {make : Word → BitVec 64} {v : BitVec 64} (hexec : exec i s = s.loadF n make fd rs1 imm)
    (hv : make (s.readMem (s.effectiveAddr rs1 imm) n) = v) (henc : encode i = w)
    (hwf : i.wf s.xlen = true) :
    Accesses s w i .load (s.effectiveAddr rs1 imm) n.bytes
      (∃ t, exec i s = .next t ∧ t.readF fd = v ∧ Advances s t ∧ Frame s t [] [fd] [] ∧ SameSpecials s t) := by
  subst hv
  refine accesses_of_access n hexec (fun hrun => ⟨_, hrun, s.readF_writeF_same fd _, .of_pc_eq rfl rfl, ?_, rfl, rfl, rfl⟩)
    henc hwf
  exact (frame_writeFmt s .double fd _).advance

theorem lowWord_readMem (s : State) (a : Word) : lowWord (s.readMem a .word) = BitVec.ofInt 32 (s.bytesLE a 4) := by
  have hbytes : ((s.readMem a .word).toNat : Int) = s.bytesLE a 4 := s.readMem_toNat a .word
  rw [← hbytes, BitVec.ofInt_natCast, BitVec.ofNat_toNat, lowWord]

theorem readMem_double (s : State) (a : Word) : s.readMem a .double = BitVec.ofInt 64 (s.bytesLE a 8) := by
  have hbytes : ((s.readMem a .double).toNat : Int) = s.bytesLE a 8 := s.readMem_toNat a .double
  rw [← hbytes, BitVec.ofInt_natCast, BitVec.ofNat_toNat, BitVec.setWidth_eq]

/-- Settles O21: the loads and stores are checked accesses that move the bytes unchanged. -/
theorem floatLoadsAndStoresMoveBits : Obligations.FloatLoadsAndStoresMoveBits := fun s _ _ rs1 imm =>
  ⟨effectiveAddress s rs1 imm,
    accesses_of_loadF .word (make := fun v => box (lowWord v)) rfl (congrArg box (lowWord_readMem s _)) rfl rfl,
    accesses_of_loadF .double (make := fun v => v) rfl (readMem_double s _) rfl rfl, stores_of_store .word rfl rfl rfl,
    stores_of_store .double rfl rfl rfl⟩

/-! ### Rounding instructions (R422 to R430, R462 to R470, R488, R489) -/

section Rounding

variable {s : State} {w : InstWord} {i : Instr} {rm : RmField}

theorem inMode_finishF {F : Fmt} {fd : FReg} {r : RMode → Flagged F}
    (hexec : exec i s = s.rounding i rm fun m => s.finishF F fd (r m)) (henc : encode i = w)
    (hwf : i.wf s.xlen = true) : InMode s w i rm fun m => GivesF s w i F fd (r m) :=
  inMode_rounding hexec (fun _ hrun => givesF_finishF hrun henc hwf) henc hwf

theorem inMode_finishX {rd : XReg} {v : RMode → Word} {n : RMode → Int} {fl : RMode → BitVec 5}
    (hexec : exec i s = s.rounding i rm fun m => s.finishX rd (v m) (fl m))
    (hv : ∀ m, ((v m).toNat : Int) ≡ n m [ZMOD s.modulus]) (henc : encode i = w)
    (hwf : i.wf s.xlen = true) : InMode s w i rm fun m => GivesXFlags s w i rd (n m) (fl m) :=
  inMode_rounding hexec (fun m hrun => givesXFlags_finishX hrun (hv m) henc hwf) henc hwf

end Rounding

/-- Settles O23: each is the shape of a rounding instruction with two operands. -/
theorem roundingArithmeticWritesResultAndFlags : Obligations.RoundingArithmeticWritesResultAndFlags := fun _ _ _ _ _ =>
  ⟨inMode_finishF rfl rfl rfl, inMode_finishF rfl rfl rfl, inMode_finishF rfl rfl rfl, inMode_finishF rfl rfl rfl,
    inMode_finishF rfl rfl rfl, inMode_finishF rfl rfl rfl, inMode_finishF rfl rfl rfl, inMode_finishF rfl rfl rfl⟩

/-- Settles O24: each is the shape of a rounding instruction with one operand. -/
theorem squareRootAndFormatConversionWriteResultAndFlags :
    Obligations.SquareRootAndFormatConversionWriteResultAndFlags := fun _ _ _ _ =>
  ⟨inMode_finishF rfl rfl rfl, inMode_finishF rfl rfl rfl, inMode_finishF rfl rfl rfl, inMode_finishF rfl rfl rfl⟩

/-- Settles O25: each is the shape of a fused multiply-add with its own two sign flips. -/
theorem fusedMultiplyAddWritesResultAndFlags : Obligations.FusedMultiplyAddWritesResultAndFlags := fun _ _ _ _ _ _ =>
  ⟨inMode_finishF rfl rfl rfl, inMode_finishF rfl rfl rfl, inMode_finishF rfl rfl rfl, inMode_finishF rfl rfl rfl,
    inMode_finishF rfl rfl rfl, inMode_finishF rfl rfl rfl, inMode_finishF rfl rfl rfl, inMode_finishF rfl rfl rfl⟩

/-! ### Sign injection (R431 to R433, R471 to R473) -/

theorem signOf_eq_msb (F : Fmt) (a : Pattern F) : signOf F a = a.msb := (BitVec.msb_eq_getLsbD_last a).symm

theorem withSign_toNat (F : Fmt) (b : Bool) (a : Pattern F) :
    (withSign F b a).toNat = (if b then 2 ^ (F.width - 1) else 0) + a.toNat % 2 ^ (F.width - 1) := by
  have hlow : a.toNat % 2 ^ (F.width - 1) < 2 ^ (F.width - 1) := Nat.mod_lt _ (Nat.two_pow_pos _)
  have hwidth : 2 ^ F.width = 2 * 2 ^ (F.width - 1) := by cases F <;> rfl
  rw [withSign, patternWith, BitVec.toNat_ofNat, Nat.mod_eq_of_lt]
  split <;> omega

theorem ofBool_append_toNat {n : Nat} (b : Bool) (v : BitVec n) :
    (BitVec.ofBool b ++ v).toNat = (if b then 2 ^ n else 0) + v.toNat := by
  rw [BitVec.toNat_append, ← Nat.shiftLeft_add_eq_or_of_lt v.isLt, Nat.shiftLeft_eq]
  cases b <;> simp

theorem ofBool_append_extract_toNat {n : Nat} (b : Bool) (a : BitVec (n + 1)) :
    (BitVec.ofBool b ++ a.extractLsb' 0 n).toNat = (if b then 2 ^ n else 0) + a.toNat % 2 ^ n := by
  rw [ofBool_append_toNat, BitVec.extractLsb'_toNat, Nat.shiftRight_zero]

theorem givesF_fpInject {s : State} {w : InstWord} {i : Instr} {F : Fmt} {fd fs1 fs2 : FReg} {sign : Bool → Bool → Bool}
    {p : Pattern F} (hexec : exec i s = s.fpInject F sign fd fs1 fs2)
    (hp : p.toNat = (if sign (s.readFmt F fs1).msb (s.readFmt F fs2).msb then 2 ^ (F.width - 1) else 0) +
      (s.readFmt F fs1).toNat % 2 ^ (F.width - 1))
    (henc : encode i = w) (hwf : i.wf s.xlen = true) : GivesF s w i F fd (p, 0) := by
  refine givesF_writeFmt (hexec.trans (congrArg (fun q => (s.writeFmt F fd q).retire) ?_)) henc hwf
  apply BitVec.eq_of_toNat_eq
  rw [withSign_toNat, hp, signOf_eq_msb, signOf_eq_msb]

/-- Settles O26: the pattern written is a sign bit above the low bits of the first operand. -/
theorem signInjectionChangesTheSignOnly : Obligations.SignInjectionChangesTheSignOnly := fun _ _ _ _ =>
  ⟨givesF_fpInject (F := .single) (sign := fun _ b => b) rfl (ofBool_append_extract_toNat _ _) rfl rfl,
    givesF_fpInject (F := .single) (sign := fun _ b => !b) rfl (ofBool_append_extract_toNat _ _) rfl rfl,
    givesF_fpInject (F := .single) (sign := fun a b => a ^^ b) rfl (ofBool_append_extract_toNat _ _) rfl rfl,
    givesF_fpInject (F := .double) (sign := fun _ b => b) rfl (ofBool_append_extract_toNat _ _) rfl rfl,
    givesF_fpInject (F := .double) (sign := fun _ b => !b) rfl (ofBool_append_extract_toNat _ _) rfl rfl,
    givesF_fpInject (F := .double) (sign := fun a b => a ^^ b) rfl (ofBool_append_extract_toNat _ _) rfl rfl⟩

/-! ### Minimum, maximum, comparisons (R434 to R438, R474 to R478) -/

theorem flagIfSNaN_eq (F : Fmt) (a b : Pattern F) :
    flagIfSNaN F a b = if isSNaN F a ∨ isSNaN F b then flagNV else flagNone := by
  simp only [flagIfSNaN, Bool.or_eq_true]

/-- Settles O27: the instructions write the two operations, whose only flag is that of a signaling NaN. -/
theorem minMaxWriteResultAndFlags : Obligations.MinMaxWriteResultAndFlags := fun _ _ _ _ =>
  ⟨givesF_finishF rfl rfl rfl, givesF_finishF rfl rfl rfl, givesF_finishF rfl rfl rfl, givesF_finishF rfl rfl rfl,
    fun F a b => ⟨flagIfSNaN_eq F a b, flagIfSNaN_eq F a b⟩⟩

theorem isNaN_of_isSNaN {F : Fmt} {a : Pattern F} (h : isSNaN F a = true) : isNaN F a = true :=
  (Bool.and_eq_true_iff.mp h).1

theorem fpEq_flags (F : Fmt) (a b : Pattern F) :
    (fpEq F a b).2 = if isSNaN F a ∨ isSNaN F b then flagNV else flagNone := by
  by_cases hnan : (isNaN F a || isNaN F b) = true
  · rw [fpEq, if_pos hnan, flagIfSNaN_eq]
  · have hquiet : ¬ (isSNaN F a ∨ isSNaN F b) := fun h =>
      hnan (Bool.or_eq_true_iff.mpr (h.imp isNaN_of_isSNaN isNaN_of_isSNaN))
    rw [fpEq, if_neg hnan, if_neg hquiet]

theorem fpLt_flags (F : Fmt) (a b : Pattern F) :
    (fpLt F a b).2 = if isNaN F a ∨ isNaN F b then flagNV else flagNone := by
  simp only [fpLt, Bool.or_eq_true, apply_ite Prod.snd]

theorem fpLe_flags (F : Fmt) (a b : Pattern F) :
    (fpLe F a b).2 = if isNaN F a ∨ isNaN F b then flagNV else flagNone := by
  simp only [fpLe, Bool.or_eq_true, apply_ite Prod.snd]

theorem givesXFlags_fpCompare {s : State} {w : InstWord} {i : Instr} {F : Fmt} {rd : XReg} {fs1 fs2 : FReg}
    {op : Pattern F → Pattern F → Bool × BitVec 5} (hexec : exec i s = s.fpCompare F op rd fs1 fs2)
    (henc : encode i = w) (hwf : i.wf s.xlen = true) :
    GivesXFlags s w i rd (if (op (s.readFmt F fs1) (s.readFmt F fs2)).1 then 1 else 0)
      (op (s.readFmt F fs1) (s.readFmt F fs2)).2 := by
  refine givesXFlags_finishX hexec ?_ henc hwf
  simpa using ofCondition_modEq (p := (op (s.readFmt F fs1) (s.readFmt F fs2)).1 = true) .rfl

/-- Settles O28: the instructions write the bit and the flags of the three comparisons. -/
theorem floatComparisonsWriteOneOrZero : Obligations.FloatComparisonsWriteOneOrZero := fun _ _ _ _ =>
  ⟨givesXFlags_fpCompare rfl rfl rfl, givesXFlags_fpCompare rfl rfl rfl, givesXFlags_fpCompare rfl rfl rfl,
    givesXFlags_fpCompare rfl rfl rfl, givesXFlags_fpCompare rfl rfl rfl, givesXFlags_fpCompare rfl rfl rfl,
    fun F a b => ⟨fpEq_flags F a b, fpLt_flags F a b, fpLe_flags F a b⟩⟩

/-! ### Conversions to integers (R440 to R443, R480 to R483) -/

section ToInteger

variable {s : State} {w : InstWord} {i : Instr} {F : Fmt} {rd : XReg} {fs1 : FReg} {rm : RmField} {sgn : Bool}

theorem inMode_fpToWord (hexec : exec i s = s.fpToWord F i sgn rd fs1 rm) (henc : encode i = w)
    (hwf : i.wf s.xlen = true) :
    InMode s w i rm fun m => GivesXFlags s w i rd ((fpToInt F m (s.readFmt F fs1) 32 sgn).1.bmod (2 ^ 32))
      (fpToInt F m (s.readFmt F fs1) 32 sgn).2 := by
  refine inMode_finishX hexec (fun m => ?_) henc hwf
  have hsext := sext_modEq (xl := s.xlen) (BitVec.ofInt 32 (fpToInt F m (s.readFmt F fs1) 32 sgn).1) (by decide)
  rwa [BitVec.toInt_ofInt] at hsext

theorem only64_fpToLong (hexec : exec i s = s.fpToLong F i sgn rd fs1 rm) (henc : encode i = w)
    (hwf : i.wf .rv64 = true) (honly : i.rv64Only = true) :
    Only64 s w i (InMode s w i rm fun m => GivesXFlags s w i rd (fpToInt F m (s.readFmt F fs1) 64 sgn).1
      (fpToInt F m (s.readFmt F fs1) 64 sgn).2) :=
  only64_onlyRv64 hexec
    (fun h64 hrun => inMode_finishX hrun (fun _ => ofInteger_modEq s.xlen _) henc (h64 ▸ hwf)) henc hwf honly

end ToInteger

/-- Settles O30: the word forms write the sign extension of 32 bits, the long forms the integer itself at XLEN = 64. -/
theorem floatToIntegerWritesResultAndFlags : Obligations.FloatToIntegerWritesResultAndFlags := fun _ _ _ _ =>
  ⟨inMode_fpToWord rfl rfl rfl, inMode_fpToWord rfl rfl rfl, only64_fpToLong rfl rfl rfl rfl, only64_fpToLong rfl rfl rfl rfl,
    inMode_fpToWord rfl rfl rfl, inMode_fpToWord rfl rfl rfl, only64_fpToLong rfl rfl rfl rfl,
    only64_fpToLong rfl rfl rfl rfl⟩

/-! ### Conversions from integers (R444 to R447, R484 to R487) -/

section FromInteger

variable {s : State} {w : InstWord} {i : Instr} {F : Fmt} {fd : FReg} {rm : RmField} {k n : Int}

theorem inMode_fpFromInt (hexec : exec i s = s.fpFromInt F i k fd rm) (hk : k = n) (henc : encode i = w)
    (hwf : i.wf s.xlen = true) :
    InMode s w i rm fun m => GivesF s w i F fd (round F m (Frac.ofInt n) false) :=
  inMode_finishF (hk ▸ hexec) henc hwf

theorem only64_fpFromInt (hexec : exec i s = s.onlyRv64 i (s.fpFromInt F i k fd rm)) (hk : k = n)
    (henc : encode i = w) (hwf : i.wf .rv64 = true) (honly : i.rv64Only = true) :
    Only64 s w i (InMode s w i rm fun m => GivesF s w i F fd (round F m (Frac.ofInt n) false)) :=
  only64_onlyRv64 hexec (fun h64 hrun => inMode_fpFromInt hrun hk henc (h64 ▸ hwf)) henc hwf honly

end FromInteger

/-! ### Moves (R448, R449, R490, R491) -/

/-- Settles O32: the moves write bits of one register file to the other. -/
theorem movesCopyBits : Obligations.MovesCopyBits := by
  intro s xd xs fd fs
  have hlow : ((s.readF fs).setWidth 32).toInt = ((s.readF fs).toNat : Int).bmod (2 ^ 32) := BitVec.toInt_setWidth ..
  have hword : lowWord (s.readX xs) = BitVec.ofInt 32 (s.uReg xs) := by
    rw [State.uReg, BitVec.ofInt_natCast, BitVec.ofNat_toNat, lowWord]
  have hdouble : s.readX xs = BitVec.ofInt 64 (s.uReg xs) := by
    rw [State.uReg, BitVec.ofInt_natCast, BitVec.ofNat_toNat, BitVec.setWidth_eq]
  refine ⟨givesX_writeX rfl ?_ rfl rfl, ?_,
    only64_onlyRv64 rfl (fun h64 hrun => givesX_writeX hrun .rfl rfl (h64 ▸ rfl)) rfl rfl rfl, ?_⟩
  · rw [← hlow]
    exact sext_modEq _ (by decide)
  · rw [← hword]
    exact givesF_writeFmt (F := .single) rfl rfl rfl
  · rw [← hdouble]
    exact only64_onlyRv64 rfl (fun h64 hrun => givesF_writeFmt (F := .double) hrun rfl (h64 ▸ rfl)) rfl rfl rfl

end Sys2Proof.Machine
end

section
/-! PROOFS. The exact arithmetic on fractions is that of the rational numbers (47_fp_single.md R402). -/

namespace Sys2Proof.Machine

open Sys2Proof

section Fractions

variable {v w : Frac}

theorem Frac.toRat_add (hv : 0 < v.den) (hw : 0 < w.den) : (v.add w).toRat = v.toRat + w.toRat := by
  have hv' : (v.den : ℚ) ≠ 0 := by positivity
  have hw' : (w.den : ℚ) ≠ 0 := by positivity
  simp only [Frac.toRat, Frac.add]
  push_cast
  field_simp

theorem Frac.toRat_mul (v w : Frac) : (v.mul w).toRat = v.toRat * w.toRat := by
  simp only [Frac.toRat, Frac.mul]
  push_cast
  exact (div_mul_div_comm _ _ _ _).symm

theorem Frac.toRat_div (hw : w.num ≠ 0) : (v.div w).toRat = v.toRat / w.toRat := by
  have hnum : (w.num : ℚ) ≠ 0 := Int.cast_ne_zero.mpr hw
  have habs : ((w.num.natAbs : ℤ) : ℚ) = w.num.sign * w.num := by rw [Int.natCast_natAbs, ← Int.sign_mul_self_eq_abs]; push_cast; rfl
  have hsign : (w.num.sign : ℚ) ≠ 0 := Int.cast_ne_zero.mpr (mt Int.sign_eq_zero_iff_zero.mp hw)
  simp only [Frac.toRat, Frac.div]
  rw [Nat.cast_mul, ← Int.cast_natCast (w.num.natAbs), habs]
  push_cast
  rw [div_div_div_eq, show (v.num * w.num.sign * w.den : ℚ) = w.num.sign * (v.num * w.den) by ring,
    show (v.den * (w.num.sign * w.num) : ℚ) = w.num.sign * (v.den * w.num) by ring, mul_div_mul_left _ _ hsign]

theorem Frac.toRat_abs (v : Frac) : v.abs.toRat = |v.toRat| := by
  simp only [Frac.toRat, Frac.abs]
  rw [abs_div, Nat.abs_cast, Int.natCast_natAbs, Int.cast_abs]

theorem Frac.toRat_pow2 (e : Int) : (Frac.pow2 e).toRat = (2 : ℚ) ^ e := by
  simp only [Frac.toRat, Frac.pow2]
  push_cast
  rcases le_total 0 e with he | he
  · rw [Int.toNat_of_nonpos (by omega : -e ≤ 0), pow_zero, div_one, ← zpow_natCast, Int.toNat_of_nonneg he]
  · rw [Int.toNat_of_nonpos he, pow_zero, one_div, ← zpow_natCast, Int.toNat_of_nonneg (by omega), zpow_neg, inv_inv]

theorem Frac.toRat_ofInt (n : Int) : (Frac.ofInt n).toRat = n := by
  simp [Frac.toRat, Frac.ofInt]

theorem Frac.den_pow2_pos (e : Int) : 0 < (Frac.pow2 e).den := Nat.two_pow_pos _

theorem Frac.den_mul_pos (hv : 0 < v.den) (hw : 0 < w.den) : 0 < (v.mul w).den := Nat.mul_pos hv hw

theorem Frac.den_add_pos (hv : 0 < v.den) (hw : 0 < w.den) : 0 < (v.add w).den := Nat.mul_pos hv hw

theorem Frac.den_div_pos (hv : 0 < v.den) (hw : w.num ≠ 0) : 0 < (v.div w).den :=
  Nat.mul_pos hv (Int.natAbs_pos.mpr hw)

theorem Frac.lt_iff (hv : 0 < v.den) (hw : 0 < w.den) : v.lt w = true ↔ v.toRat < w.toRat := by
  rw [Frac.lt, decide_eq_true_eq, Frac.toRat, Frac.toRat, div_lt_div_iff₀ (by positivity) (by positivity)]
  norm_cast

theorem Frac.eq_iff (hv : 0 < v.den) (hw : 0 < w.den) : v.eq w = true ↔ v.toRat = w.toRat := by
  rw [Frac.eq, decide_eq_true_eq, Frac.toRat, Frac.toRat, div_eq_div_iff (by positivity) (by positivity)]
  norm_cast

theorem Frac.toRat_eq_zero_iff (hv : 0 < v.den) : v.toRat = 0 ↔ v.num = 0 := by
  have hden : (v.den : ℚ) ≠ 0 := by positivity
  simp [Frac.toRat, hden]

theorem Frac.toRat_neg_iff (hv : 0 < v.den) : v.toRat < 0 ↔ v.num < 0 := by
  have hden : (0 : ℚ) < v.den := by positivity
  rw [Frac.toRat, div_lt_iff₀ hden, zero_mul, Int.cast_lt_zero]

end Fractions

end Sys2Proof.Machine
end

section
/-! PROOFS. A pattern is a sign and a magnitude, the number that its bits below the sign form. The fields, and so the classes of
patterns, are read off the magnitude, whose order is that of the numbers denoted (47_fp_single.md R400). -/

namespace Sys2Proof.Machine

open Sys2Proof

/-- The bits below the sign, as a number. -/
def magOf (F : Fmt) (a : Pattern F) : Nat := a.toNat % 2 ^ (F.width - 1)

/-- The magnitude of the infinities. -/
def Fmt.infMag (F : Fmt) : Nat := F.expOnes * 2 ^ (F.prec - 1)

/-! ### The constants of the formats -/

section Constants

variable (F : Fmt)

theorem Fmt.two_pow_width : 2 ^ F.width = 2 * 2 ^ (F.width - 1) := by cases F <;> rfl

theorem Fmt.two_pow_magnitude : 2 ^ (F.width - 1) = 2 ^ (F.prec - 1) * 2 ^ (F.width - F.prec) := by cases F <;> rfl

theorem Fmt.two_pow_magnitude_eq_infMag_add : 2 ^ (F.width - 1) = F.infMag + 2 ^ (F.prec - 1) := by cases F <;> rfl

theorem Fmt.expOnes_eq : F.expOnes = 2 ^ (F.width - F.prec) - 1 := by cases F <;> rfl

theorem Fmt.two_le_expOnes : 2 ≤ F.expOnes := by cases F <;> decide

theorem Fmt.two_pow_fraction : 2 ^ (F.prec - 1) = 2 * 2 ^ (F.prec - 2) := by cases F <;> rfl

theorem Fmt.two_pow_prec : 2 ^ F.prec = 2 * 2 ^ (F.prec - 1) := by cases F <;> rfl

theorem Fmt.infMag_lt : F.infMag < 2 ^ (F.width - 1) := by
  have hsum := F.two_pow_magnitude_eq_infMag_add
  have hpos : 0 < 2 ^ (F.prec - 1) := Nat.two_pow_pos _
  omega

theorem Fmt.two_pow_fraction_lt_infMag : 2 ^ (F.prec - 1) < F.infMag := by
  have hpos : 0 < 2 ^ (F.prec - 1) := Nat.two_pow_pos _
  have hle : 2 * 2 ^ (F.prec - 1) ≤ F.infMag := Nat.mul_le_mul_right _ F.two_le_expOnes
  omega

theorem Fmt.infMag_pos : 0 < F.infMag := (Nat.two_pow_pos _).trans F.two_pow_fraction_lt_infMag

theorem Fmt.infMag_even : F.infMag % 2 = 0 := by
  rw [Fmt.infMag, F.two_pow_fraction, mul_left_comm, Nat.mul_mod_right]

end Constants

/-! ### The fields -/

section Fields

variable {F : Fmt} (a b : Pattern F)

theorem magOf_lt : magOf F a < 2 ^ (F.width - 1) := Nat.mod_lt _ (Nat.two_pow_pos _)

theorem signOf_eq_decide : signOf F a = decide (2 ^ (F.width - 1) ≤ a.toNat) := by
  rw [signOf_eq_msb, BitVec.msb_eq_decide]

theorem toNat_eq_sign_add_mag : a.toNat = (if signOf F a then 2 ^ (F.width - 1) else 0) + magOf F a := by
  have hlt : a.toNat < 2 ^ F.width := a.isLt
  rw [F.two_pow_width] at hlt
  rw [signOf_eq_decide, magOf]
  simp only [decide_eq_true_eq]
  split
  · next hle => rw [Nat.mod_eq_sub_mod hle, Nat.mod_eq_of_lt (by omega)]; omega
  · next hgt => rw [Nat.mod_eq_of_lt (by omega), Nat.zero_add]

theorem expField_eq : expField F a = magOf F a / 2 ^ (F.prec - 1) := by
  rw [expField, magOf, BitVec.extractLsb'_toNat, Nat.shiftRight_eq_div_pow, F.two_pow_magnitude,
    Nat.mod_mul_right_div_self]

theorem fracField_eq : fracField F a = magOf F a % 2 ^ (F.prec - 1) := by
  rw [fracField, magOf, BitVec.extractLsb'_toNat, Nat.shiftRight_zero, F.two_pow_magnitude,
    Nat.mod_mul_right_mod]

theorem magOf_eq : magOf F a = expField F a * 2 ^ (F.prec - 1) + fracField F a := by
  rw [expField_eq, fracField_eq, Nat.div_add_mod']

variable {a b}

theorem pattern_ext (hsign : signOf F a = signOf F b) (hmag : magOf F a = magOf F b) : a = b := by
  apply BitVec.eq_of_toNat_eq
  rw [toNat_eq_sign_add_mag a, toNat_eq_sign_add_mag b, hsign, hmag]

end Fields

/-! ### Patterns made from a sign and a magnitude -/

section Made

variable {F : Fmt} (s : Bool) {k : Nat}

theorem patternWith_toNat (hk : k < 2 ^ (F.width - 1)) :
    (patternWith F s k).toNat = (if s then 2 ^ (F.width - 1) else 0) + k := by
  rw [patternWith, BitVec.toNat_ofNat, F.two_pow_width, Nat.mod_eq_of_lt]
  split <;> omega

theorem magOf_patternWith (hk : k < 2 ^ (F.width - 1)) : magOf F (patternWith F s k) = k := by
  rw [magOf, patternWith_toNat s hk]
  cases s
  · rw [if_neg Bool.false_ne_true, Nat.zero_add, Nat.mod_eq_of_lt hk]
  · rw [if_pos rfl, Nat.add_mod_left, Nat.mod_eq_of_lt hk]

theorem signOf_patternWith (hk : k < 2 ^ (F.width - 1)) : signOf F (patternWith F s k) = s := by
  rw [signOf_eq_decide, patternWith_toNat s hk]
  cases s
  · exact decide_eq_false (by simpa using hk)
  · exact decide_eq_true (by simp)

theorem patternWith_signOf_magOf (a : Pattern F) : patternWith F (signOf F a) (magOf F a) = a :=
  pattern_ext (signOf_patternWith _ (magOf_lt a)) (magOf_patternWith _ (magOf_lt a))

variable (F)

theorem signOf_zeroOf : signOf F (zeroOf F s) = s := signOf_patternWith s (Nat.two_pow_pos _)
theorem magOf_zeroOf : magOf F (zeroOf F s) = 0 := magOf_patternWith s (Nat.two_pow_pos _)
theorem signOf_infOf : signOf F (infOf F s) = s := signOf_patternWith s F.infMag_lt
theorem magOf_infOf : magOf F (infOf F s) = F.infMag := magOf_patternWith s F.infMag_lt

end Made

/-! ### The classes of patterns -/

section Classes

variable {F : Fmt} (a : Pattern F)

theorem expField_eq_ones_iff : expField F a = F.expOnes ↔ F.infMag ≤ magOf F a := by
  have hlt := magOf_lt a
  rw [F.two_pow_magnitude_eq_infMag_add, Fmt.infMag, ← Nat.succ_mul] at hlt
  have hle : magOf F a / 2 ^ (F.prec - 1) ≤ F.expOnes := 
    Nat.le_of_lt_succ ((Nat.div_lt_iff_lt_mul (Nat.two_pow_pos _)).mpr hlt)
  rw [expField_eq, Fmt.infMag, ← Nat.le_div_iff_mul_le (Nat.two_pow_pos _)]
  omega

theorem expField_eq_zero_iff : expField F a = 0 ↔ magOf F a < 2 ^ (F.prec - 1) := by
  rw [expField_eq, Nat.div_eq_zero_iff, or_iff_right (Nat.two_pow_pos _).ne']

theorem fracField_eq_zero_iff_of_ones (h : expField F a = F.expOnes) : fracField F a = 0 ↔ magOf F a = F.infMag := by
  rw [magOf_eq, h, Fmt.infMag]
  omega

theorem isFinite_iff : isFinite F a ↔ magOf F a < F.infMag := by
  rw [isFinite, Ne, expField_eq_ones_iff, not_le]

theorem isInf_iff : isInf F a = true ↔ magOf F a = F.infMag := by
  rw [isInf, Bool.and_eq_true, beq_iff_eq, beq_iff_eq]
  refine ⟨fun ⟨hones, hfrac⟩ => (fracField_eq_zero_iff_of_ones a hones).mp hfrac, fun hmag => ?_⟩
  have hones : expField F a = F.expOnes := (expField_eq_ones_iff a).mpr hmag.ge
  exact ⟨hones, (fracField_eq_zero_iff_of_ones a hones).mpr hmag⟩

theorem isNaN_iff : isNaN F a = true ↔ F.infMag < magOf F a := by
  rw [isNaN, Bool.and_eq_true, beq_iff_eq, bne_iff_ne]
  refine ⟨fun ⟨hones, hfrac⟩ => ?_, fun hmag => ?_⟩
  · have hle := (expField_eq_ones_iff a).mp hones
    exact lt_of_le_of_ne hle fun h => hfrac ((fracField_eq_zero_iff_of_ones a hones).mpr h.symm)
  · have hones : expField F a = F.expOnes := (expField_eq_ones_iff a).mpr hmag.le
    exact ⟨hones, fun hfrac => hmag.ne' ((fracField_eq_zero_iff_of_ones a hones).mp hfrac)⟩

theorem isZero_iff : isZero F a = true ↔ magOf F a = 0 := by
  rw [isZero, Bool.and_eq_true, beq_iff_eq, beq_iff_eq, magOf_eq]
  simp [Nat.add_eq_zero_iff]

theorem isSubnormal_iff : isSubnormal F a = true ↔ magOf F a ≠ 0 ∧ magOf F a < 2 ^ (F.prec - 1) := by
  rw [isSubnormal, Bool.and_eq_true, beq_iff_eq, bne_iff_ne, expField_eq_zero_iff, fracField_eq]
  rw [and_comm]
  exact and_congr_left fun hlt => by rw [Nat.mod_eq_of_lt hlt]

/-- The quiet bit is the top bit of the fraction. -/
theorem quietBit_eq : a.getLsbD (F.prec - 2) = decide (2 ^ (F.prec - 2) ≤ fracField F a) := by
  have hprec : F.prec - 2 < F.prec - 1 := by cases F <;> decide
  have hbit : (a.extractLsb' 0 (F.prec - 1)).getLsbD (F.prec - 2) = a.getLsbD (F.prec - 2) := by
    simp [hprec]
  have hlast : F.prec - 2 = F.prec - 1 - 1 := by omega
  rw [← hbit, fracField, hlast, ← BitVec.msb_eq_getLsbD_last, BitVec.msb_eq_decide]

theorem isSNaN_iff : isSNaN F a = true ↔ isNaN F a = true ∧ fracField F a < 2 ^ (F.prec - 2) := by
  rw [isSNaN, Bool.and_eq_true, quietBit_eq, Bool.not_eq_true', decide_eq_false_iff_not, not_le]

theorem not_isNaN_of_isFinite {a : Pattern F} (h : isFinite F a) : ¬ isNaN F a = true := by
  rw [isFinite_iff] at h
  rw [isNaN_iff]
  omega

theorem not_isInf_of_isFinite {a : Pattern F} (h : isFinite F a) : ¬ isInf F a = true := by
  rw [isFinite_iff] at h
  rw [isInf_iff]
  omega

theorem not_isNaN_of_isInf {a : Pattern F} (h : isInf F a = true) : ¬ isNaN F a = true := by
  rw [isInf_iff] at h
  rw [isNaN_iff]
  omega

theorem isFinite_of_not {a : Pattern F} (hnan : ¬ isNaN F a = true) (hinf : ¬ isInf F a = true) : isFinite F a := by
  rw [isNaN_iff] at hnan
  rw [isInf_iff] at hinf
  rw [isFinite_iff]
  omega

end Classes

/-! ### The number of a pattern (R400) -/

/-- -1 for a set sign bit, else 1. -/
def signRat (s : Bool) : ℚ := if s then -1 else 1

@[simp] theorem signRat_true : signRat true = -1 := rfl
@[simp] theorem signRat_false : signRat false = 1 := rfl

theorem val_eq (F : Fmt) (a : Pattern F) : (val F a).toRat = ratOf F a := by
  have hsigned (k : Nat) :
      (Frac.mk (if signOf F a then -(k : Int) else k) 1).toRat = signRat (signOf F a) * k := by
    cases signOf F a <;> simp [Frac.toRat, signRat]
  by_cases hsub : expField F a = 0
  · rw [ratOf, if_pos hsub, ← mul_assoc, ← signRat, ← hsigned, ← Frac.toRat_pow2, ← Frac.toRat_mul]
    exact congrArg Frac.toRat (if_pos hsub)
  · have hcast : (2 ^ (F.prec - 1) + fracField F a : ℚ) = ((2 ^ (F.prec - 1) + fracField F a : Nat) : ℚ) := by push_cast; rfl
    rw [ratOf, if_neg hsub, hcast, ← mul_assoc, ← signRat, ← hsigned, ← Frac.toRat_pow2, ← Frac.toRat_mul]
    exact congrArg Frac.toRat (if_neg hsub)

theorem val_den_pos (F : Fmt) (a : Pattern F) : 0 < (val F a).den := by
  by_cases hsub : expField F a = 0
  · rw [val, if_pos hsub]
    exact Frac.den_mul_pos (v := ⟨_, 1⟩) Nat.one_pos (Frac.den_pow2_pos _)
  · rw [val, if_neg hsub]
    exact Frac.den_mul_pos (v := ⟨_, 1⟩) Nat.one_pos (Frac.den_pow2_pos _)

/-- Settles O34: the fields are those of the sign and the magnitude. -/
theorem patternDenotesItsNumber : Obligations.PatternDenotesItsNumber := by
  refine ⟨fun F a => ⟨val_eq F a, val_den_pos F a, ?_, ?_, ?_, ?_, isSNaN_iff a⟩, fun F s => ⟨⟨signOf_infOf F s, ?_⟩,
    signOf_zeroOf F s, ?_⟩⟩
  · rw [add_assoc, ← magOf_eq, ← toNat_eq_sign_add_mag]
  · rw [isZero, Bool.and_eq_true, beq_iff_eq, beq_iff_eq]
  · rw [isInf, Bool.and_eq_true, beq_iff_eq, beq_iff_eq, F.expOnes_eq]
  · rw [isNaN, Bool.and_eq_true, beq_iff_eq, bne_iff_ne, F.expOnes_eq]
  · have hinf := (isInf_iff (infOf F s)).mpr (magOf_infOf F s)
    rwa [isInf, Bool.and_eq_true, beq_iff_eq, beq_iff_eq, F.expOnes_eq] at hinf
  · have hzero := (isZero_iff (zeroOf F s)).mpr (magOf_zeroOf F s)
    rwa [isZero, Bool.and_eq_true, beq_iff_eq, beq_iff_eq] at hzero

/-! ### The class mask (R415) -/

section Class

variable {F : Fmt} {a : Pattern F}

theorem expField_le_ones (a : Pattern F) : expField F a ≤ F.expOnes := by
  have hlt : expField F a < 2 ^ (F.width - F.prec) := (a.extractLsb' (F.prec - 1) (F.width - F.prec)).isLt
  rw [F.expOnes_eq]
  omega

theorem isNaN_fields (h : isNaN F a = true) : expField F a = F.expOnes ∧ fracField F a ≠ 0 := by
  simpa [isNaN] using h

theorem isInf_fields (h : isInf F a = true) : expField F a = F.expOnes ∧ fracField F a = 0 := by
  simpa [isInf] using h

theorem isZero_fields (h : isZero F a = true) : expField F a = 0 ∧ fracField F a = 0 := by
  simpa [isZero] using h

theorem isSubnormal_fields (h : isSubnormal F a = true) : expField F a = 0 ∧ fracField F a ≠ 0 := by
  simpa [isSubnormal] using h

/-- What is of no other class is a normal number. -/
theorem expField_of_normal (hnan : ¬ isNaN F a = true) (hinf : ¬ isInf F a = true) (hzero : ¬ isZero F a = true)
    (hsub : ¬ isSubnormal F a = true) : 0 < expField F a ∧ expField F a < F.expOnes := by
  have hfin : expField F a ≠ F.expOnes := isFinite_of_not hnan hinf
  have hle := expField_le_ones a
  rw [isZero_iff] at hzero
  rw [isSubnormal_iff, ← expField_eq_zero_iff] at hsub
  have hpos : expField F a ≠ 0 := fun h => hsub ⟨hzero, h⟩
  omega

theorem fpClass_oneHot (F : Fmt) (a : Pattern F) : ∃ k : Nat, fpClass F a = BitVec.ofNat 10 (2 ^ k) ∧
    ((k = 0 ∧ expField F a = F.expOnes ∧ fracField F a = 0 ∧ signOf F a = true) ∨
     (k = 1 ∧ 0 < expField F a ∧ expField F a < F.expOnes ∧ signOf F a = true) ∨
     (k = 2 ∧ expField F a = 0 ∧ fracField F a ≠ 0 ∧ signOf F a = true) ∨
     (k = 3 ∧ expField F a = 0 ∧ fracField F a = 0 ∧ signOf F a = true) ∨
     (k = 4 ∧ expField F a = 0 ∧ fracField F a = 0 ∧ signOf F a = false) ∨
     (k = 5 ∧ expField F a = 0 ∧ fracField F a ≠ 0 ∧ signOf F a = false) ∨
     (k = 6 ∧ 0 < expField F a ∧ expField F a < F.expOnes ∧ signOf F a = false) ∨
     (k = 7 ∧ expField F a = F.expOnes ∧ fracField F a = 0 ∧ signOf F a = false) ∨
     (k = 8 ∧ expField F a = F.expOnes ∧ fracField F a ≠ 0 ∧ a.getLsbD (F.prec - 2) = false) ∨
     (k = 9 ∧ expField F a = F.expOnes ∧ a.getLsbD (F.prec - 2) = true)) := by
  by_cases hnan : isNaN F a = true
  · have hfields := isNaN_fields hnan
    cases hquiet : a.getLsbD (F.prec - 2)
    · exact ⟨8, by simp [fpClass, isSNaN, hnan, hquiet], by simp [hfields]⟩
    · exact ⟨9, by simp [fpClass, isSNaN, hnan, hquiet], by simp [hfields]⟩
  by_cases hinf : isInf F a = true
  · have hfields := isInf_fields hinf
    cases hsign : signOf F a
    · exact ⟨7, by simp [fpClass, hnan, hinf, hsign], by simp [hfields]⟩
    · exact ⟨0, by simp [fpClass, hnan, hinf, hsign], by simp [hfields]⟩
  by_cases hzero : isZero F a = true
  · have hfields := isZero_fields hzero
    cases hsign : signOf F a
    · exact ⟨4, by simp [fpClass, hnan, hinf, hzero, hsign], by simp [hfields]⟩
    · exact ⟨3, by simp [fpClass, hnan, hinf, hzero, hsign], by simp [hfields]⟩
  by_cases hsub : isSubnormal F a = true
  · have hfields := isSubnormal_fields hsub
    cases hsign : signOf F a
    · exact ⟨5, by simp [fpClass, hnan, hinf, hzero, hsub, hsign], by simp [hfields]⟩
    · exact ⟨2, by simp [fpClass, hnan, hinf, hzero, hsub, hsign], by simp [hfields]⟩
  · have hfields := expField_of_normal hnan hinf hzero hsub
    cases hsign : signOf F a
    · exact ⟨6, by simp [fpClass, hnan, hinf, hzero, hsub, hsign], by simp [hfields]⟩
    · exact ⟨1, by simp [fpClass, hnan, hinf, hzero, hsub, hsign], by simp [hfields]⟩

end Class

/-- Settles O29: the instructions write the mask, and the class tests pick the bit that the fields say. -/
theorem classificationWritesItsMask : Obligations.ClassificationWritesItsMask := by
  have hwide (v : BitVec 10) : (((v.setWidth 64).toNat : Nat) : Int) = v.toNat := by
    rw [BitVec.toNat_setWidth_of_le (by decide)]
  refine ⟨fun s rd rs1 => ⟨givesX_writeX rfl ?_ rfl rfl, givesX_writeX rfl ?_ rfl rfl⟩, fpClass_oneHot⟩
  · rw [hwide]
  · rw [hwide]

end Sys2Proof.Machine
end

section
/-! PROOFS. The numbers of the magnitudes: a magnitude N of binade j is k * 2^(emin+j-p+1) with k of p bits, and the next magnitude
is one unit of that last place more. The exponent is unbounded here, so that the magnitude of the infinities denotes 2^(emax+1)
(47_fp_single.md R400, R407). -/

namespace Sys2Proof.Machine

open Sys2Proof

/-- The exponent of the last place in binade j, binade 0 being that of the subnormal numbers and of the least normal ones. -/
def Fmt.ulpExp (F : Fmt) (j : Nat) : Int := F.emin + j - F.prec + 1

/-- The binade of a magnitude. -/
def binadeOf (F : Fmt) (N : Nat) : Nat := N / 2 ^ (F.prec - 1) - 1

/-- The number a magnitude denotes. -/
def magVal (F : Fmt) (N : Nat) : ℚ :=
  ((N - binadeOf F N * 2 ^ (F.prec - 1) : Nat) : ℚ) * (2 : ℚ) ^ F.ulpExp (binadeOf F N)

section Magnitudes

variable (F : Fmt) {j k N M : Nat}

theorem Fmt.ulpExp_succ (j : Nat) : F.ulpExp (j + 1) = F.ulpExp j + 1 := by
  simp only [Fmt.ulpExp]
  push_cast
  ring

theorem Fmt.emin_eq : F.emin = 1 - F.emax := by cases F <;> rfl

theorem Fmt.prec_pos : 2 ≤ F.prec := by cases F <;> decide

theorem Fmt.cast_prec_pred : ((F.prec - 1 : Nat) : Int) = F.prec - 1 := by
  have := F.prec_pos
  omega

theorem binadeOf_spec (N : Nat) : ∃ k, N = binadeOf F N * 2 ^ (F.prec - 1) + k ∧
    (binadeOf F N = 0 ∨ 2 ^ (F.prec - 1) ≤ k) ∧ k < 2 * 2 ^ (F.prec - 1) := by
  have hpos : 0 < 2 ^ (F.prec - 1) := Nat.two_pow_pos _
  have hmod : N % 2 ^ (F.prec - 1) < 2 ^ (F.prec - 1) := Nat.mod_lt _ hpos
  have hdiv : N / 2 ^ (F.prec - 1) * 2 ^ (F.prec - 1) + N % 2 ^ (F.prec - 1) = N := Nat.div_add_mod' _ _
  rw [binadeOf]
  cases hq : N / 2 ^ (F.prec - 1) with
  | zero => exact ⟨N, by simp, .inl rfl, by rw [hq, zero_mul] at hdiv; omega⟩
  | succ j =>
    rw [hq, Nat.succ_mul] at hdiv
    exact ⟨2 ^ (F.prec - 1) + N % 2 ^ (F.prec - 1), by simp only [Nat.add_sub_cancel]; omega, .inr (by omega), by omega⟩

/-- A significand k of p bits in binade j; k = 2^p is the first number of the next binade. -/
theorem magVal_of_binade (hj : j = 0 ∨ 2 ^ (F.prec - 1) ≤ k) (hk : k ≤ 2 * 2 ^ (F.prec - 1)) :
    magVal F (j * 2 ^ (F.prec - 1) + k) = k * (2 : ℚ) ^ F.ulpExp j := by
  have hpos : 0 < 2 ^ (F.prec - 1) := Nat.two_pow_pos _
  have hbinade : binadeOf F (j * 2 ^ (F.prec - 1) + k) = j + k / 2 ^ (F.prec - 1) - 1 := by
    rw [binadeOf, add_comm, Nat.add_mul_div_right _ _ hpos, add_comm]
  rcases hk.lt_or_eq with hlt | rfl
  · have hj' : binadeOf F (j * 2 ^ (F.prec - 1) + k) = j := by
      rcases lt_or_ge k (2 ^ (F.prec - 1)) with hsmall | hlarge
      · rw [hbinade, Nat.div_eq_of_lt hsmall]
        omega
      · have hone : k / 2 ^ (F.prec - 1) = 1 := Nat.div_eq_of_lt_le (by omega) (by omega)
        rw [hbinade, hone]
        omega
    rw [magVal, hj', Nat.add_sub_cancel_left]
  · have hj' : binadeOf F (j * 2 ^ (F.prec - 1) + 2 * 2 ^ (F.prec - 1)) = j + 1 := by
      rw [hbinade, Nat.mul_div_cancel _ hpos]
      rfl
    have hrest : j * 2 ^ (F.prec - 1) + 2 * 2 ^ (F.prec - 1) - (j + 1) * 2 ^ (F.prec - 1) = 2 ^ (F.prec - 1) := by
      rw [Nat.succ_mul j]
      omega
    rw [magVal, hj', hrest, F.ulpExp_succ, zpow_add₀ two_ne_zero, zpow_one]
    push_cast
    ring

/-- From a magnitude to the next is one unit in the last place. -/
theorem magVal_succ (N : Nat) : magVal F (N + 1) = magVal F N + (2 : ℚ) ^ F.ulpExp (binadeOf F N) := by
  obtain ⟨k, hN, hj, hk⟩ := binadeOf_spec F N
  have hthis := magVal_of_binade F hj hk.le
  have hnext := magVal_of_binade F (k := k + 1) (hj.imp_right Nat.le_succ_of_le) hk
  rw [← add_assoc] at hnext
  rw [← hN] at hthis hnext
  rw [hthis, hnext]
  push_cast
  ring

theorem magVal_strictMono : StrictMono (magVal F) :=
  strictMono_nat_of_lt_succ fun N => by
    rw [magVal_succ]
    exact lt_add_of_pos_right _ (by positivity)

@[simp] theorem magVal_zero : magVal F 0 = 0 := by
  simp [magVal]

theorem magVal_nonneg (N : Nat) : 0 ≤ magVal F N := by
  rw [magVal]
  positivity

theorem magVal_pos (hN : 0 < N) : 0 < magVal F N := magVal_zero F ▸ magVal_strictMono F hN

theorem magVal_lt_iff : magVal F M < magVal F N ↔ M < N := (magVal_strictMono F).lt_iff_lt
theorem magVal_le_iff : magVal F M ≤ magVal F N ↔ M ≤ N := (magVal_strictMono F).le_iff_le
theorem magVal_inj : magVal F M = magVal F N ↔ M = N := (magVal_strictMono F).injective.eq_iff

/-- The least number of binade j; for j = 0 it is the least normal number. -/
theorem magVal_binade_start (j : Nat) : magVal F ((j + 1) * 2 ^ (F.prec - 1)) = (2 : ℚ) ^ (F.emin + j) := by
  have hval := magVal_of_binade F (j := j) (k := 2 ^ (F.prec - 1)) (.inr le_rfl) (by omega)
  rw [← Nat.succ_mul] at hval
  rw [hval]
  push_cast
  rw [← zpow_natCast, ← zpow_add₀ two_ne_zero, F.cast_prec_pred, Fmt.ulpExp]
  congr 1
  ring

theorem magVal_minNormal : magVal F (2 ^ (F.prec - 1)) = (2 : ℚ) ^ F.emin := by
  simpa using magVal_binade_start F 0

/-- Past the largest finite number comes 2^(emax+1). -/
theorem magVal_infMag : magVal F F.infMag = (2 : ℚ) ^ (F.emax + 1) := by
  cases F
  · exact magVal_binade_start .single 254
  · exact magVal_binade_start .double 2046

/-- The largest finite number (R407). -/
theorem magVal_maxFinite : magVal F (F.infMag - 1) = (2 - (2 : ℚ) ^ (1 - (F.prec : Int))) * (2 : ℚ) ^ F.emax := by
  have hval : magVal F (F.infMag - 1) = ((2 ^ F.prec - 1 : Nat) : ℚ) * (2 : ℚ) ^ (F.emax - F.prec + 1) := by
    cases F
    · exact magVal_of_binade .single (j := 253) (k := 2 ^ 24 - 1) (.inr (by decide)) (by decide)
    · exact magVal_of_binade .double (j := 2045) (k := 2 ^ 53 - 1) (.inr (by decide)) (by decide)
  rw [hval, Nat.cast_sub Nat.one_le_two_pow]
  push_cast
  rw [← zpow_natCast, sub_mul, sub_mul, one_mul, ← zpow_add₀ two_ne_zero, ← zpow_add₀ two_ne_zero, ← zpow_one_add₀ two_ne_zero]
  congr 2 <;> ring

/-- The number of a finite pattern is that of its magnitude, with its sign. -/
theorem ratOf_eq (a : Pattern F) : ratOf F a = signRat (signOf F a) * magVal F (magOf F a) := by
  rw [ratOf, ← signRat]
  congr 1
  by_cases hsub : expField F a = 0
  · have hmag : magOf F a = 0 * 2 ^ (F.prec - 1) + fracField F a := by rw [magOf_eq, hsub]
    have hfrac : fracField F a < 2 ^ (F.prec - 1) := fracField_eq a ▸ Nat.mod_lt _ (Nat.two_pow_pos _)
    rw [if_pos hsub, hmag, magVal_of_binade F (.inl rfl) (by omega), Fmt.ulpExp]
    simp
  · obtain ⟨j, hj⟩ := Nat.exists_eq_succ_of_ne_zero hsub
    have hmag : magOf F a = j * 2 ^ (F.prec - 1) + (2 ^ (F.prec - 1) + fracField F a) := by
      rw [magOf_eq, hj, Nat.succ_mul]
      ring
    have hfrac : fracField F a < 2 ^ (F.prec - 1) := fracField_eq a ▸ Nat.mod_lt _ (Nat.two_pow_pos _)
    have hexp : (expField F a : Int) - F.emax - F.prec + 1 = F.ulpExp j := by
      rw [Fmt.ulpExp, F.emin_eq, hj]
      push_cast
      ring
    rw [if_neg hsub, hmag, magVal_of_binade F (.inr (by omega)) (by omega), hexp]
    push_cast
    rfl

theorem abs_ratOf (a : Pattern F) : |ratOf F a| = magVal F (magOf F a) := by
  rw [ratOf_eq, abs_mul, abs_of_nonneg (magVal_nonneg F _)]
  cases signOf F a <;> simp

theorem ratOf_patternWith (s : Bool) (hN : N < 2 ^ (F.width - 1)) :
    ratOf F (patternWith F s N) = signRat s * magVal F N := by
  rw [ratOf_eq, signOf_patternWith s hN, magOf_patternWith s hN]

/-- Every number of p significant bits, with a last place not below that of the subnormal numbers, is that of a magnitude. -/
theorem exists_magVal_eq (j : Nat) (hk : k < 2 * 2 ^ (F.prec - 1)) : ∃ N, magVal F N = k * (2 : ℚ) ^ F.ulpExp j := by
  induction j generalizing k with
  | zero => exact ⟨_, magVal_of_binade F (.inl rfl) hk.le⟩
  | succ j ih =>
    rcases le_or_gt (2 ^ (F.prec - 1)) k with hlarge | hsmall
    · exact ⟨_, magVal_of_binade F (.inr hlarge) hk.le⟩
    · obtain ⟨N, hN⟩ := ih (k := 2 * k) (by omega)
      refine ⟨N, hN.trans ?_⟩
      rw [F.ulpExp_succ, zpow_add₀ two_ne_zero, zpow_one]
      push_cast
      ring

end Magnitudes

end Sys2Proof.Machine
end

section
/-! PROOFS. Rounding to an integer, as a choice between the two neighbours of a number: one test decides it for `rint`, for `round`
and for the definition of the five modes (47_fp_single.md R404, R407). -/

namespace Sys2Proof.Machine

open Sys2Proof

/-- Whether x, which lies in [a, b) and has sign s, is rounded to b; odd says that a is odd. -/
def roundsUp (m : RMode) (s odd : Bool) (a x b : ℚ) : Bool :=
  decide (a < x) && match m with
    | .rtz => false
    | .rdn => s
    | .rup => !s
    | .rmm => decide (b - x ≤ x - a)
    | .rne => decide (b - x < x - a) || (decide (b - x = x - a) && odd)

/-- x >= 0 rounded to an integer, as the magnitude of a number of sign s. -/
def rintRat (m : RMode) (s : Bool) (x : ℚ) : Nat :=
  if roundsUp m s (decide (⌊x⌋₊ % 2 = 1)) ⌊x⌋₊ x (⌊x⌋₊ + 1 : Nat) then ⌊x⌋₊ + 1 else ⌊x⌋₊

section Choice

variable {m : RMode} {s odd : Bool} {a x b u : ℚ}

theorem lt_of_roundsUp (h : roundsUp m s odd a x b = true) : a < x := by
  simp only [roundsUp, Bool.and_eq_true, decide_eq_true_eq] at h
  exact h.1

theorem roundsUp_mul (hu : 0 < u) : roundsUp m s odd (a * u) (x * u) (b * u) = roundsUp m s odd a x b := by
  have heq : b * u - x * u = x * u - a * u ↔ b - x = x - a := by
    rw [← sub_mul, ← sub_mul, mul_left_inj' hu.ne']
  cases m <;> simp only [roundsUp, heq] <;> simp only [← sub_mul, mul_lt_mul_iff_left₀ hu, mul_le_mul_iff_left₀ hu]

theorem roundsUp_div (hu : 0 < u) : roundsUp m s odd (a * u) x (b * u) = roundsUp m s odd a (x / u) b := by
  rw [← roundsUp_mul (x := x / u) hu, div_mul_cancel₀ _ hu.ne']

end Choice

/-! ### `rint` (R407) -/

section Integers

variable {m : RMode} {s : Bool} {x : ℚ} {v : Frac}

/-- The quotient and the remainder of numerator and denominator are the floor and what is left. -/
theorem rint_eq (hden : 0 < v.den) (hnum : 0 ≤ v.num) : rint m s v = rintRat m s v.toRat := by
  obtain ⟨n, d⟩ := v
  obtain ⟨n, rfl⟩ := Int.eq_ofNat_of_zero_le hnum
  change 0 < d at hden
  have hd : (0 : ℚ) < d := by positivity
  have hfloor : ⌊(Frac.mk n d).toRat⌋₊ = n / d := by
    rw [Frac.toRat, Int.cast_natCast, Nat.floor_div_eq_div]
  have hlow : (Frac.mk n d).toRat - (n / d : Nat) = (n % d : Nat) / d := by
    have hsum : (n : ℚ) = d * (n / d : Nat) + (n % d : Nat) := by exact_mod_cast (Nat.div_add_mod n d).symm
    rw [Frac.toRat, Int.cast_natCast, eq_div_iff hd.ne', sub_mul, div_mul_cancel₀ _ hd.ne']
    linarith
  have hhigh : ((n / d + 1 : Nat) : ℚ) - (Frac.mk n d).toRat = ((d : ℚ) - (n % d : Nat)) / d := by
    rw [sub_div, div_self hd.ne', ← hlow]
    push_cast
    ring
  have hexact : ((n / d : Nat) : ℚ) < (Frac.mk n d).toRat ↔ n % d ≠ 0 := by
    rw [← sub_pos, hlow, div_pos_iff_of_pos_right hd, Nat.cast_pos, Nat.pos_iff_ne_zero]
  have hlt : ((n / d + 1 : Nat) : ℚ) - (Frac.mk n d).toRat < (Frac.mk n d).toRat - (n / d : Nat) ↔ d < 2 * (n % d) := by
    rw [hlow, hhigh, div_lt_div_iff_of_pos_right hd, sub_lt_iff_lt_add, ← two_mul]
    norm_cast
  have hle : ((n / d + 1 : Nat) : ℚ) - (Frac.mk n d).toRat ≤ (Frac.mk n d).toRat - (n / d : Nat) ↔ d ≤ 2 * (n % d) := by
    rw [hlow, hhigh, div_le_div_iff_of_pos_right hd, sub_le_iff_le_add, ← two_mul]
    norm_cast
  have heq : ((n / d + 1 : Nat) : ℚ) - (Frac.mk n d).toRat = (Frac.mk n d).toRat - (n / d : Nat) ↔ d = 2 * (n % d) := by
    rw [eq_iff_le_not_lt, hle, hlt]
    omega
  rw [rintRat, hfloor]
  unfold rint roundsUp
  simp only [Int.toNat_natCast, hexact, hlt, hle, heq]
  by_cases hzero : n % d = 0
  · simp [hzero]
  · cases m with
    | rtz => simp [hzero]
    | rdn => cases s <;> simp [hzero]
    | rup => cases s <;> simp [hzero]
    | rmm => simp [hzero]
    | rne =>
      rcases lt_trichotomy d (2 * (n % d)) with h | h | h
      · simp [hzero, h]
      · rcases Nat.mod_two_eq_zero_or_one (n / d) with hpar | hpar <;> simp [hzero, ← h, hpar]
      · simp [hzero, h, h.not_gt, h.ne']

theorem rintRat_cases (m : RMode) (s : Bool) (x : ℚ) : rintRat m s x = ⌊x⌋₊ ∨ rintRat m s x = ⌊x⌋₊ + 1 ∧ (⌊x⌋₊ : ℚ) < x := by
  rw [rintRat]
  split
  · next hup => exact .inr ⟨rfl, lt_of_roundsUp hup⟩
  · exact .inl rfl

theorem rintRat_le {n : Nat} (h : x ≤ n) : rintRat m s x ≤ n := by
  have hfloor : ⌊x⌋₊ ≤ n := Nat.floor_le_of_le h
  rcases rintRat_cases m s x with hr | ⟨hr, hlt⟩
  · omega
  · have hne : (⌊x⌋₊ : ℚ) < n := hlt.trans_le h
    rw [hr]
    exact Nat.cast_lt.mp hne

theorem le_rintRat {n : Nat} (h : (n : ℚ) ≤ x) : n ≤ rintRat m s x := by
  have hfloor : n ≤ ⌊x⌋₊ := Nat.le_floor h
  rcases rintRat_cases m s x with hr | ⟨hr, -⟩ <;> omega

end Integers

/-! ### The five modes (R404) -/

section Modes

variable {m : RMode} {s : Bool} {x : ℚ}

/-- The integer of magnitude k and sign s. -/
def signedInt (s : Bool) (k : Int) : Int := if s then -k else k

theorem signedInt_signedInt (s : Bool) (k : Int) : signedInt s (signedInt s k) = k := by
  cases s <;> simp [signedInt]

theorem signedInt_eq_iff {n k : Int} : signedInt s n = k ↔ n = signedInt s k :=
  ⟨fun h => by rw [← h, signedInt_signedInt], fun h => by rw [h, signedInt_signedInt]⟩

theorem cast_signedInt (s : Bool) (k : Int) : ((signedInt s k : Int) : ℚ) = signRat s * k := by
  cases s <;> simp [signedInt]

theorem floor_lt_iff (x : ℚ) : (⌊x⌋₊ : ℚ) < x ↔ ⌈x⌉₊ = ⌊x⌋₊ + 1 := by
  have hlt : x < (⌊x⌋₊ + 1 : Nat) := by exact_mod_cast Nat.lt_floor_add_one x
  have hceil : ⌈x⌉₊ ≤ ⌊x⌋₊ + 1 := Nat.ceil_le.mpr hlt.le
  rw [← Nat.lt_ceil]
  omega

theorem rintRat_rtz : rintRat .rtz s x = ⌊x⌋₊ := by
  simp [rintRat, roundsUp]

/-- Away from zero: the directed mode that points to the sign's side. -/
theorem rintRat_away (hm : m = .rdn ∧ s = true ∨ m = .rup ∧ s = false) : rintRat m s x = ⌈x⌉₊ := by
  have hup : roundsUp m s (decide (⌊x⌋₊ % 2 = 1)) ⌊x⌋₊ x (⌊x⌋₊ + 1 : Nat) = decide ((⌊x⌋₊ : ℚ) < x) := by
    rcases hm with ⟨rfl, rfl⟩ | ⟨rfl, rfl⟩ <;> simp [roundsUp]
  rw [rintRat, hup]
  by_cases hlt : (⌊x⌋₊ : ℚ) < x
  · rw [if_pos (decide_eq_true hlt), (floor_lt_iff x).mp hlt]
  · have hle : ⌈x⌉₊ ≤ ⌊x⌋₊ := Nat.ceil_le.mpr (not_lt.mp hlt)
    rw [if_neg (by simpa using hlt)]
    exact (Nat.floor_le_ceil x).antisymm hle

/-- Toward zero: the directed mode that points to the other side. -/
theorem rintRat_toward (hm : m = .rdn ∧ s = false ∨ m = .rup ∧ s = true) : rintRat m s x = ⌊x⌋₊ := by
  rcases hm with ⟨rfl, rfl⟩ | ⟨rfl, rfl⟩ <;> simp [rintRat, roundsUp]

/-- A number rounds to the nearest integers alike on either side of zero. -/
theorem roundsToInt_signRat_mul {n : Int} (hm : m = .rne ∨ m = .rmm) :
    RoundsToInt m (signRat s * x) n ↔ RoundsToInt m x (signedInt s n) := by
  cases s with
  | false => simp [signedInt]
  | true =>
    have hdist : |-x - (n : ℚ)| = |x - ((-n : Int) : ℚ)| := by
      rw [← abs_neg]
      congr 1
      push_cast
      ring
    have hpar : n % 2 = 0 ↔ -n % 2 = 0 := by omega
    rcases hm with rfl | rfl <;> simp only [RoundsToInt, signedInt, signRat_true, neg_one_mul, if_true, hdist]
    · rw [hpar]
    · simp only [abs_neg, Int.cast_neg]

theorem floor_or_succ_of_near {n : Int} (hx : 0 ≤ x) (hn : |x - n| ≤ 1 / 2) : n = ⌊x⌋₊ ∨ n = (⌊x⌋₊ + 1 : Nat) := by
  have hlow : (⌊x⌋₊ : ℚ) ≤ x := Nat.floor_le hx
  have hhigh : x < ⌊x⌋₊ + 1 := Nat.lt_floor_add_one x
  obtain ⟨hn1, hn2⟩ := abs_le.mp hn
  have h1 : ((⌊x⌋₊ : Int) : ℚ) < ((n + 1 : Int) : ℚ) := by push_cast; linarith
  have h2 : (n : ℚ) < ((⌊x⌋₊ + 2 : Int) : ℚ) := by push_cast; linarith
  rw [Int.cast_lt] at h1 h2
  omega

/-- To nearest, an integer is left behind by more than one half, and at one half by the rule for ties. -/
theorem roundsUp_unit_iff {odd : Bool} {a : Nat} (hm : m = .rne ∨ m = .rmm) : roundsUp m s odd a x (a + 1 : Nat) = true ↔
    1 / 2 < x - a ∨ x - a = 1 / 2 ∧ (m = .rne → odd = true) := by
  have hlt : ((a + 1 : Nat) : ℚ) - x < x - a ↔ 1 / 2 < x - a := by push_cast; constructor <;> intro h <;> linarith
  have heq : ((a + 1 : Nat) : ℚ) - x = x - a ↔ x - a = 1 / 2 := by push_cast; constructor <;> intro h <;> linarith
  have hpos : 1 / 2 ≤ x - a → (a : ℚ) < x := fun h => by linarith
  rcases hm with rfl | rfl
  · simp only [roundsUp, hlt, heq, Bool.and_eq_true, Bool.or_eq_true, decide_eq_true_eq, forall_const]
    exact and_iff_right_of_imp fun h => hpos (h.elim le_of_lt fun h => h.1.ge)
  · simp only [roundsUp, le_iff_lt_or_eq, hlt, heq, Bool.and_eq_true, decide_eq_true_eq, reduceCtorEq, false_imp_iff, and_true]
    exact and_iff_right_of_imp fun h => hpos (h.elim le_of_lt Eq.ge)

theorem roundsToInt_floor_iff (hm : m = .rne ∨ m = .rmm) (hx : 0 ≤ x) : RoundsToInt m x ⌊x⌋₊ ↔
    x - ⌊x⌋₊ < 1 / 2 ∨ x - ⌊x⌋₊ = 1 / 2 ∧ m = .rne ∧ ¬ ⌊x⌋₊ % 2 = 1 := by
  have hlow : (⌊x⌋₊ : ℚ) ≤ x := Nat.floor_le hx
  have hdist : |x - (⌊x⌋₊ : Int)| = x - ⌊x⌋₊ := abs_of_nonneg (by push_cast; linarith)
  have hpar : (⌊x⌋₊ : Int) % 2 = 0 ↔ ¬ ⌊x⌋₊ % 2 = 1 := by omega
  rcases hm with rfl | rfl
  · simp only [RoundsToInt, hdist, hpar, true_and]
  · have hmag : ¬ |x| < |((⌊x⌋₊ : Int) : ℚ)| := by
      rw [abs_of_nonneg hx, abs_of_nonneg (by positivity), not_lt]
      exact_mod_cast hlow
    simp only [RoundsToInt, hdist, hmag, reduceCtorEq, false_and, and_false]

theorem roundsToInt_floor_succ_iff (hm : m = .rne ∨ m = .rmm) (hx : 0 ≤ x) : RoundsToInt m x (⌊x⌋₊ + 1 : Nat) ↔
    1 / 2 < x - ⌊x⌋₊ ∨ x - ⌊x⌋₊ = 1 / 2 ∧ (m = .rne → ⌊x⌋₊ % 2 = 1) := by
  have hhigh : x < ⌊x⌋₊ + 1 := Nat.lt_floor_add_one x
  have hdist : |x - ((⌊x⌋₊ + 1 : Nat) : Int)| = ⌊x⌋₊ + 1 - x := by
    rw [abs_sub_comm, abs_of_nonneg (by push_cast; linarith)]
    push_cast
    rfl
  have hlt : ⌊x⌋₊ + 1 - x < 1 / 2 ↔ 1 / 2 < x - ⌊x⌋₊ := by constructor <;> intro h <;> linarith
  have heq : ⌊x⌋₊ + 1 - x = 1 / 2 ↔ x - ⌊x⌋₊ = 1 / 2 := by constructor <;> intro h <;> linarith
  have hpar : ((⌊x⌋₊ + 1 : Nat) : Int) % 2 = 0 ↔ ⌊x⌋₊ % 2 = 1 := by omega
  have hmag : |x| < |(((⌊x⌋₊ + 1 : Nat) : Int) : ℚ)| := by
    rw [abs_of_nonneg hx, abs_of_nonneg (by positivity)]
    exact_mod_cast hhigh
  rcases hm with rfl | rfl
  · simp only [RoundsToInt, hdist, hpar, hlt, heq, forall_const]
  · simp only [RoundsToInt, hdist, hlt, heq, hmag, reduceCtorEq, false_imp_iff]

theorem roundsToInt_nearest_iff {n : Int} (hm : m = .rne ∨ m = .rmm) (hx : 0 ≤ x) :
    RoundsToInt m x n ↔ n = rintRat m s x := by
  have hnear : RoundsToInt m x n → n = ⌊x⌋₊ ∨ n = (⌊x⌋₊ + 1 : Nat) := fun h => by
    refine floor_or_succ_of_near hx ?_
    rcases hm with rfl | rfl <;> exact h.elim le_of_lt fun h => h.1.le
  have hup := roundsUp_unit_iff (s := s) (x := x) (odd := decide (⌊x⌋₊ % 2 = 1)) (a := ⌊x⌋₊) hm
  rw [decide_eq_true_eq, ← roundsToInt_floor_succ_iff hm hx] at hup
  have hdown : RoundsToInt m x ⌊x⌋₊ ↔ ¬ RoundsToInt m x (⌊x⌋₊ + 1 : Nat) := by
    rw [roundsToInt_floor_iff hm hx, roundsToInt_floor_succ_iff hm hx, not_or, not_lt, le_iff_lt_or_eq, not_and, Classical.not_imp]
    have hne : x - ⌊x⌋₊ < 1 / 2 → ¬ x - ⌊x⌋₊ = 1 / 2 := ne_of_lt
    tauto
  rw [rintRat]
  split
  · next h => exact ⟨fun hn => (hnear hn).resolve_left fun heq => hdown.mp (heq ▸ hn) (hup.mp h), fun hn => hn ▸ hup.mp h⟩
  · next h =>
    exact ⟨fun hn => (hnear hn).resolve_right fun heq => h (hup.mpr (heq ▸ hn)), fun hn => hn ▸ hdown.mpr (mt hup.mpr h)⟩

/-- The rounding of a number of sign s and magnitude x is the integer of sign s whose magnitude `rint` gives. -/
theorem roundsToInt_iff {n : Int} (hx : 0 ≤ x) : RoundsToInt m (signRat s * x) n ↔ n = signedInt s (rintRat m s x) := by
  have hfloor : ((⌊x⌋₊ : Nat) : Int) = ⌊x⌋ := Int.natCast_floor_eq_floor hx
  have hceil : ((⌈x⌉₊ : Nat) : Int) = ⌈x⌉ := Int.natCast_ceil_eq_ceil hx
  cases m with
  | rne => rw [roundsToInt_signRat_mul (.inl rfl), roundsToInt_nearest_iff (s := s) (.inl rfl) hx, signedInt_eq_iff]
  | rmm => rw [roundsToInt_signRat_mul (.inr rfl), roundsToInt_nearest_iff (s := s) (.inr rfl) hx, signedInt_eq_iff]
  | rtz =>
    rw [rintRat_rtz, hfloor]
    cases s with
    | false => simp [RoundsToInt, signedInt, hx]
    | true =>
      rcases hx.eq_or_lt with rfl | hpos
      · simp [RoundsToInt, signedInt]
      · simp [RoundsToInt, signedInt, hpos.not_ge, Int.ceil_neg]
  | rdn =>
    cases s with
    | false => simp [RoundsToInt, signedInt, rintRat_toward, hfloor]
    | true => simp [RoundsToInt, signedInt, rintRat_away, hceil, Int.floor_neg]
  | rup =>
    cases s with
    | false => simp [RoundsToInt, signedInt, rintRat_away, hceil]
    | true => simp [RoundsToInt, signedInt, rintRat_toward, hfloor, Int.ceil_neg]

end Modes

end Sys2Proof.Machine
end

section
/-! PROOFS. `round` (47_fp_single.md R407) picks one of the two magnitudes around a number, by the same test as `rint`; whether it
overflows, is exact or is tiny is then a question about that magnitude. Nothing depends on the fraction beyond its value. -/

namespace Sys2Proof.Machine

open Sys2Proof

/-! ### The binade of a number -/

theorem two_zpow_le_iff {r : ℚ} (hr : 0 < r) (e : Int) : (2 : ℚ) ^ e ≤ r ↔ e ≤ Int.log 2 r := by
  simpa using Int.zpow_le_iff_le_log (b := 2) one_lt_two hr (x := e)

theorem lt_two_zpow_iff {r : ℚ} (hr : 0 < r) (e : Int) : r < (2 : ℚ) ^ e ↔ Int.log 2 r < e := by
  simpa using Int.lt_zpow_iff_log_lt (b := 2) one_lt_two hr (x := e)

theorem two_zpow_log2_bounds {n : Nat} (hn : 0 < n) :
    (2 : ℚ) ^ (n.log2 : Int) ≤ n ∧ (n : ℚ) < (2 : ℚ) ^ ((n.log2 : Int) + 1) := by
  have hlow : 2 ^ n.log2 ≤ n := Nat.log2_self_le hn.ne'
  have hhigh : n < 2 ^ (n.log2 + 1) := Nat.lt_log2_self
  rw [← Nat.cast_succ, zpow_natCast, zpow_natCast]
  exact ⟨by exact_mod_cast hlow, by exact_mod_cast hhigh⟩

/-- The quotient of the leading powers of two is off by at most one. -/
theorem log_div_bounds {n d : Nat} (hn : 0 < n) (hd : 0 < d) :
    (n.log2 : Int) - d.log2 - 1 ≤ Int.log 2 ((n : ℚ) / d) ∧ Int.log 2 ((n : ℚ) / d) < (n.log2 : Int) - d.log2 + 1 := by
  obtain ⟨hnlow, hnhigh⟩ := two_zpow_log2_bounds hn
  obtain ⟨hdlow, hdhigh⟩ := two_zpow_log2_bounds hd
  have hd' : (0 : ℚ) < d := by positivity
  rw [← two_zpow_le_iff (by positivity), ← lt_two_zpow_iff (by positivity), le_div_iff₀ hd', div_lt_iff₀ hd']
  constructor
  · calc (2 : ℚ) ^ ((n.log2 : Int) - d.log2 - 1) * d
      _ ≤ (2 : ℚ) ^ ((n.log2 : Int) - d.log2 - 1) * (2 : ℚ) ^ ((d.log2 : Int) + 1) := by gcongr
      _ = (2 : ℚ) ^ (n.log2 : Int) := by rw [← zpow_add₀ two_ne_zero]; congr 1; ring
      _ ≤ n := hnlow
  · calc (n : ℚ)
      _ < (2 : ℚ) ^ ((n.log2 : Int) + 1) := hnhigh
      _ = (2 : ℚ) ^ ((n.log2 : Int) - d.log2 + 1) * (2 : ℚ) ^ (d.log2 : Int) := by
        rw [← zpow_add₀ two_ne_zero]; congr 1; ring
      _ ≤ (2 : ℚ) ^ ((n.log2 : Int) - d.log2 + 1) * d := by gcongr

theorem floorLog2_eq {v : Frac} (hden : 0 < v.den) (hnum : 0 < v.num) : floorLog2 v = Int.log 2 v.toRat := by
  obtain ⟨n, d⟩ := v
  obtain ⟨n, rfl⟩ := Int.eq_ofNat_of_zero_le hnum.le
  change 0 < d at hden
  have hn : 0 < n := Int.natCast_pos.mp hnum
  have hr : (Frac.mk n d).toRat = n / d := rfl
  obtain ⟨hlow, hhigh⟩ := log_div_bounds hn hden
  have hlt : (Frac.mk n d).lt (Frac.pow2 ((n.log2 : Int) - d.log2)) = true ↔
      Int.log 2 ((n : ℚ) / d) < (n.log2 : Int) - d.log2 := by
    rw [Frac.lt_iff hden (Frac.den_pow2_pos _), Frac.toRat_pow2, hr, lt_two_zpow_iff (by positivity)]
  rw [floorLog2, hr]
  simp only [Int.toNat_natCast, hlt]
  split <;> omega

/-- The binade of a number; those below the normal numbers are in binade 0. -/
def binadeOfRat (F : Fmt) (r : ℚ) : Nat := (Int.log 2 r - F.emin).toNat

/-- The magnitude `round` gives for a number of sign s and magnitude r, were the exponent unbounded above. -/
def roundMag (F : Fmt) (m : RMode) (s : Bool) (r : ℚ) : Nat :=
  binadeOfRat F r * 2 ^ (F.prec - 1) + rintRat m s (r / (2 : ℚ) ^ F.ulpExp (binadeOfRat F r))

/-- The greatest magnitude of a number not above r. -/
def floorMag (F : Fmt) (r : ℚ) : Nat :=
  binadeOfRat F r * 2 ^ (F.prec - 1) + ⌊r / (2 : ℚ) ^ F.ulpExp (binadeOfRat F r)⌋₊

section Neighbours

variable {F : Fmt} {m : RMode} {s : Bool} {r : ℚ} {N : Nat}

theorem ulpExp_binadeOfRat (F : Fmt) (r : ℚ) :
    F.ulpExp (binadeOfRat F r) = (if Int.log 2 r < F.emin then F.emin else Int.log 2 r) - F.prec + 1 := by
  rw [Fmt.ulpExp, binadeOfRat]
  split <;> omega

/-- In units of the last place r has p digits, unless it is subnormal. -/
theorem scaled_bounds (hr : 0 < r) :
    r / (2 : ℚ) ^ F.ulpExp (binadeOfRat F r) < (2 * 2 ^ (F.prec - 1) : Nat) ∧
    (binadeOfRat F r = 0 ∨ ((2 ^ (F.prec - 1) : Nat) : ℚ) ≤ r / (2 : ℚ) ^ F.ulpExp (binadeOfRat F r)) := by
  have hlow : (2 : ℚ) ^ Int.log 2 r ≤ r := (two_zpow_le_iff hr _).mpr le_rfl
  have hhigh : r < (2 : ℚ) ^ (Int.log 2 r + 1) := (lt_two_zpow_iff hr _).mpr (lt_add_one _)
  have hp := F.cast_prec_pred
  constructor
  · rw [div_lt_iff₀ (by positivity)]
    refine hhigh.trans_le ?_
    push_cast
    rw [← zpow_natCast, ← zpow_one_add₀ two_ne_zero, ← zpow_add₀ two_ne_zero]
    refine zpow_le_zpow_right₀ one_le_two ?_
    rw [ulpExp_binadeOfRat]
    split <;> omega
  · by_cases hsub : Int.log 2 r < F.emin
    · left
      rw [binadeOfRat]
      omega
    · right
      rw [le_div_iff₀ (by positivity)]
      refine le_trans ?_ hlow
      push_cast
      rw [← zpow_natCast, ← zpow_add₀ two_ne_zero]
      refine zpow_le_zpow_right₀ one_le_two ?_
      rw [ulpExp_binadeOfRat, if_neg hsub]
      omega

theorem scaled_floor_bounds (hr : 0 < r) :
    (binadeOfRat F r = 0 ∨ 2 ^ (F.prec - 1) ≤ ⌊r / (2 : ℚ) ^ F.ulpExp (binadeOfRat F r)⌋₊) ∧
    ⌊r / (2 : ℚ) ^ F.ulpExp (binadeOfRat F r)⌋₊ + 1 ≤ 2 * 2 ^ (F.prec - 1) := by
  obtain ⟨hhigh, hlow⟩ := scaled_bounds (F := F) hr
  have hpos : 0 < 2 * 2 ^ (F.prec - 1) := by positivity
  exact ⟨hlow.imp_right Nat.le_floor, (Nat.floor_lt' hpos.ne').mpr hhigh⟩

theorem magVal_floorMag (hr : 0 < r) : magVal F (floorMag F r) =
    ⌊r / (2 : ℚ) ^ F.ulpExp (binadeOfRat F r)⌋₊ * (2 : ℚ) ^ F.ulpExp (binadeOfRat F r) := by
  obtain ⟨hlow, hhigh⟩ := scaled_floor_bounds (F := F) hr
  exact magVal_of_binade F hlow (by omega)

theorem magVal_floorMag_succ (hr : 0 < r) : magVal F (floorMag F r + 1) =
    (⌊r / (2 : ℚ) ^ F.ulpExp (binadeOfRat F r)⌋₊ + 1 : Nat) * (2 : ℚ) ^ F.ulpExp (binadeOfRat F r) := by
  obtain ⟨hlow, hhigh⟩ := scaled_floor_bounds (F := F) hr
  exact magVal_of_binade F (hlow.imp_right Nat.le_succ_of_le) hhigh

theorem magVal_floorMag_le (hr : 0 < r) : magVal F (floorMag F r) ≤ r := by
  rw [magVal_floorMag hr, ← le_div_iff₀ (by positivity)]
  exact Nat.floor_le (by positivity)

theorem lt_magVal_floorMag_succ (hr : 0 < r) : r < magVal F (floorMag F r + 1) := by
  rw [magVal_floorMag_succ hr, ← div_lt_iff₀ (by positivity)]
  exact_mod_cast Nat.lt_floor_add_one _

/-- The magnitude given is one of the two neighbours, by the test of the mode. -/
theorem roundMag_eq (hr : 0 < r) : roundMag F m s r =
    if roundsUp m s (decide (floorMag F r % 2 = 1)) (magVal F (floorMag F r)) r (magVal F (floorMag F r + 1))
    then floorMag F r + 1 else floorMag F r := by
  have hulp : (0 : ℚ) < (2 : ℚ) ^ F.ulpExp (binadeOfRat F r) := by positivity
  have hpar : floorMag F r % 2 = ⌊r / (2 : ℚ) ^ F.ulpExp (binadeOfRat F r)⌋₊ % 2 := by
    rw [floorMag, F.two_pow_fraction, mul_left_comm, Nat.mul_add_mod]
  have htest : roundsUp m s (decide (floorMag F r % 2 = 1)) (magVal F (floorMag F r)) r (magVal F (floorMag F r + 1)) =
      roundsUp m s (decide (⌊r / (2 : ℚ) ^ F.ulpExp (binadeOfRat F r)⌋₊ % 2 = 1))
        ⌊r / (2 : ℚ) ^ F.ulpExp (binadeOfRat F r)⌋₊ (r / (2 : ℚ) ^ F.ulpExp (binadeOfRat F r))
        (⌊r / (2 : ℚ) ^ F.ulpExp (binadeOfRat F r)⌋₊ + 1 : Nat) := by
    rw [magVal_floorMag hr, magVal_floorMag_succ hr, hpar, roundsUp_div hulp]
  rw [htest, roundMag, rintRat]
  split <;> rfl

end Neighbours

end Sys2Proof.Machine
end

section
/-! PROOFS. `round` in terms of magnitudes (47_fp_single.md R407): the pattern and the flags it delivers for a number of sign s and
magnitude r > 0. -/

namespace Sys2Proof.Machine

open Sys2Proof

/-- The number rounded to p digits, were the exponent unbounded above and below (R407 step 1). -/
def unboundedRound (F : Fmt) (m : RMode) (s : Bool) (r : ℚ) : ℚ :=
  rintRat m s (r / (2 : ℚ) ^ (Int.log 2 r - F.prec + 1)) * (2 : ℚ) ^ (Int.log 2 r - F.prec + 1)

/-- The magnitude delivered where an unbounded exponent gives N (R407 step 2). -/
def deliveredMag (F : Fmt) (m : RMode) (s : Bool) (N : Nat) : Nat :=
  if N < F.infMag then N else if overflowToInf m s then F.infMag else F.infMag - 1

/-- The flags raised (R407 steps 2 and 3). -/
def roundFlags (F : Fmt) (m : RMode) (s : Bool) (r : ℚ) : BitVec 5 :=
  if F.infMag ≤ roundMag F m s r then flagOF ||| flagNX
  else if magVal F (roundMag F m s r) = r then flagNone
  else if unboundedRound F m s r < (2 : ℚ) ^ F.emin then flagUF ||| flagNX
  else flagNX

section Steps

variable {F : Fmt} {m : RMode} {s : Bool} {r : ℚ} {v : Frac}

theorem magVal_roundMag (hr : 0 < r) : magVal F (roundMag F m s r) =
    rintRat m s (r / (2 : ℚ) ^ F.ulpExp (binadeOfRat F r)) * (2 : ℚ) ^ F.ulpExp (binadeOfRat F r) := by
  obtain ⟨hhigh, hlow⟩ := scaled_bounds (F := F) hr
  exact magVal_of_binade F (hlow.imp_right le_rintRat) (rintRat_le hhigh.le)

/-- From the normal numbers on, the bound of the exponent below changes nothing. -/
theorem unboundedRound_eq_magVal (hr : 0 < r) (he : ¬ Int.log 2 r < F.emin) :
    unboundedRound F m s r = magVal F (roundMag F m s r) := by
  rw [magVal_roundMag hr, ulpExp_binadeOfRat, if_neg he, unboundedRound]

/-- A number below the normal ones does not round past the least of these, with either exponent. -/
theorem unboundedRound_le_of_subnormal (hr : 0 < r) (he : Int.log 2 r < F.emin) :
    unboundedRound F m s r ≤ (2 : ℚ) ^ F.emin := by
  have hhigh : r < (2 : ℚ) ^ (Int.log 2 r + 1) := (lt_two_zpow_iff hr _).mpr (lt_add_one _)
  have hscaled : r / (2 : ℚ) ^ (Int.log 2 r - F.prec + 1) ≤ (2 ^ F.prec : Nat) := by
    rw [div_le_iff₀ (by positivity)]
    refine hhigh.le.trans_eq ?_
    push_cast
    rw [← zpow_natCast, ← zpow_add₀ two_ne_zero]
    congr 1
    ring
  calc unboundedRound F m s r
    _ ≤ (2 ^ F.prec : Nat) * (2 : ℚ) ^ (Int.log 2 r - F.prec + 1) := by
      rw [unboundedRound]
      gcongr
      exact rintRat_le hscaled
    _ = (2 : ℚ) ^ (Int.log 2 r + 1) := by
      push_cast
      rw [← zpow_natCast, ← zpow_add₀ two_ne_zero]
      congr 1
      ring
    _ ≤ (2 : ℚ) ^ F.emin := zpow_le_zpow_right₀ one_le_two (by omega)

theorem lt_minNormal_iff (hr : 0 < r) : r < magVal F (2 ^ (F.prec - 1)) ↔ Int.log 2 r < F.emin := by
  rw [magVal_minNormal, lt_two_zpow_iff hr]

/-- The next magnitude is at most M if r is. -/
theorem roundMag_le {M : Nat} (hr : 0 < r) (hM : r ≤ magVal F M) : roundMag F m s r ≤ M := by
  have hfloor : floorMag F r ≤ M := (magVal_le_iff F).mp ((magVal_floorMag_le hr).trans hM)
  rw [roundMag_eq hr]
  split
  · next hup => exact (magVal_lt_iff F).mp ((lt_of_roundsUp hup).trans_le hM)
  · exact hfloor

theorem le_roundMag {M : Nat} (hr : 0 < r) (hM : magVal F M ≤ r) : M ≤ roundMag F m s r := by
  have hfloor : M < floorMag F r + 1 := (magVal_lt_iff F).mp (hM.trans_lt (lt_magVal_floorMag_succ hr))
  rw [roundMag_eq hr]
  split <;> omega

/-- Step 2: the overflow. -/
theorem maxFinite_lt_iff (hr : 0 < r) : magVal F (F.infMag - 1) < unboundedRound F m s r ↔ F.infMag ≤ roundMag F m s r := by
  have hpos := F.infMag_pos
  by_cases he : Int.log 2 r < F.emin
  · have hlt := F.two_pow_fraction_lt_infMag
    have hnumber : unboundedRound F m s r ≤ magVal F (F.infMag - 1) := by
      refine (unboundedRound_le_of_subnormal hr he).trans ?_
      rw [← magVal_minNormal, magVal_le_iff]
      omega
    have hmag : roundMag F m s r ≤ 2 ^ (F.prec - 1) := roundMag_le hr ((lt_minNormal_iff hr).mpr he).le
    exact iff_of_false hnumber.not_gt (by omega)
  · rw [unboundedRound_eq_magVal hr he, magVal_lt_iff]
    omega

/-- Step 3: only what overflows or rounds below the normal numbers is tiny. -/
theorem le_unboundedRound (hr : (2 : ℚ) ^ F.emin ≤ r) : (2 : ℚ) ^ F.emin ≤ unboundedRound F m s r := by
  have hpos : 0 < r := lt_of_lt_of_le (by positivity) hr
  have he : ¬ Int.log 2 r < F.emin := not_lt.mpr ((two_zpow_le_iff hpos _).mp hr)
  rw [unboundedRound_eq_magVal hpos he, ← magVal_minNormal, magVal_le_iff]
  exact le_roundMag hpos (magVal_minNormal F ▸ hr)

theorem maxFinite_toRat (F : Fmt) : (maxFinite F).toRat = magVal F (F.infMag - 1) := by
  rw [magVal_maxFinite, maxFinite, Frac.toRat_mul, Frac.toRat_ofInt, Frac.toRat_pow2]
  push_cast
  rw [← zpow_natCast, sub_mul, sub_mul, one_mul, ← zpow_add₀ two_ne_zero, ← zpow_add₀ two_ne_zero,
    ← zpow_one_add₀ two_ne_zero]
  congr 2 <;> ring

theorem rint_mul_pow2 (hden : 0 < v.den) (hnum : 0 ≤ v.num) (e : Int) :
    rint m s (v.mul (Frac.pow2 (-e))) = rintRat m s (v.toRat / (2 : ℚ) ^ e) := by
  rw [rint_eq (Frac.den_mul_pos hden (Frac.den_pow2_pos _)) (mul_nonneg hnum (by exact pow_nonneg (by decide) _)),
    Frac.toRat_mul, Frac.toRat_pow2, zpow_neg, div_eq_mul_inv]

theorem toRat_ofInt_mul_pow2 (k : Nat) (e : Int) : ((Frac.ofInt k).mul (Frac.pow2 e)).toRat = k * (2 : ℚ) ^ e := by
  rw [Frac.toRat_mul, Frac.toRat_ofInt, Frac.toRat_pow2, Int.cast_natCast]

theorem patternOf_eq (r : ℚ) (k : Nat) : patternOf F s (if Int.log 2 r < F.emin then F.emin else Int.log 2 r) k =
    patternWith F s (binadeOfRat F r * 2 ^ (F.prec - 1) + k) := by
  rw [patternOf, binadeOfRat]
  split
  · next h => rw [Int.toNat_of_nonpos (by omega : Int.log 2 r - F.emin ≤ 0), Int.toNat_of_nonpos (by omega)]
  · rfl

theorem roundMagnitude_eq (hden : 0 < v.den) (hnum : 0 < v.num) : roundMagnitude F m s v =
    (patternWith F s (deliveredMag F m s (roundMag F m s v.toRat)), roundFlags F m s v.toRat) := by
  have hr : 0 < v.toRat := div_pos (Int.cast_pos.mpr hnum) (Nat.cast_pos.mpr hden)
  have hone : ∀ (k : Nat) (e : Int), 0 < ((Frac.ofInt k).mul (Frac.pow2 e)).den := fun k e =>
    Frac.den_mul_pos Nat.one_pos (Frac.den_pow2_pos e)
  have hmax : 0 < (maxFinite F).den := Frac.den_mul_pos Nat.one_pos (Frac.den_pow2_pos _)
  have hk : (if Int.log 2 v.toRat < F.emin then rintRat m s (v.toRat / (2 : ℚ) ^ (F.emin - F.prec + 1))
      else rintRat m s (v.toRat / (2 : ℚ) ^ (Int.log 2 v.toRat - F.prec + 1))) =
      rintRat m s (v.toRat / (2 : ℚ) ^ F.ulpExp (binadeOfRat F v.toRat)) := by
    rw [ulpExp_binadeOfRat]
    split <;> rfl
  unfold roundMagnitude
  simp only [floorLog2_eq hden hnum, rint_mul_pow2 hden hnum.le, hk, patternOf_eq, Frac.lt_iff hmax (hone _ _),
    Frac.lt_iff (hone _ _) (Frac.den_pow2_pos _), Frac.eq_iff (hone _ _) hden, toRat_ofInt_mul_pow2, Frac.toRat_pow2,
    maxFinite_toRat, ← ulpExp_binadeOfRat, ← magVal_roundMag hr]
  rw [← unboundedRound, deliveredMag, roundFlags]
  simp only [maxFinite_lt_iff hr]
  by_cases hover : F.infMag ≤ roundMag F m s v.toRat
  · rw [if_pos hover, if_pos hover, if_neg hover.not_gt, infOf, maxFiniteOf]
    split <;> rfl
  · rw [if_neg hover, if_neg hover, if_pos (not_le.mp hover)]
    rfl

/-! ### `round` -/

variable {zs : Bool}

theorem round_of_zero (F : Fmt) (m : RMode) (zs : Bool) (h : v.num = 0) : round F m v zs = (zeroOf F zs, flagNone) :=
  if_pos h

/-- What `round` delivers for a number that is not 0. -/
theorem round_eq (hden : 0 < v.den) (hnum : v.num ≠ 0) : round F m v zs =
    (patternWith F (decide (v.toRat < 0)) (deliveredMag F m (decide (v.toRat < 0))
      (roundMag F m (decide (v.toRat < 0)) |v.toRat|)), roundFlags F m (decide (v.toRat < 0)) |v.toRat|) := by
  have habs : 0 < v.abs.num := Int.natCast_pos.mpr (Int.natAbs_pos.mpr hnum)
  rw [round, if_neg hnum, roundMagnitude_eq (v := v.abs) hden habs, Frac.toRat_abs]
  simp only [Frac.toRat_neg_iff hden]

end Steps

/-- Settles O35: what `round` delivers is written with the rational number only. -/
theorem roundDependsOnTheValueOnly : Obligations.RoundDependsOnTheValueOnly := by
  intro F m zs v w hv hw hvw
  by_cases hzero : v.num = 0
  · have hzero' : w.num = 0 := by rwa [← Frac.toRat_eq_zero_iff hw, ← hvw, Frac.toRat_eq_zero_iff hv]
    rw [round_of_zero F m zs hzero, round_of_zero F m zs hzero']
  · have hzero' : w.num ≠ 0 := by rwa [Ne, ← Frac.toRat_eq_zero_iff hw, ← hvw, Frac.toRat_eq_zero_iff hv]
    rw [round_eq hv hzero, round_eq hw hzero', hvw]

end Sys2Proof.Machine
end

section
/-! PROOFS. What `round` delivers in each mode (47_fp_single.md R404, R407). With s the sign and r the size of the number rounded, a
number y compares with it as s * y does with r, so that one argument about magnitudes serves both sides of zero. -/

namespace Sys2Proof.Machine

open Sys2Proof

/-! ### Sign and size -/

section Sides

variable {F : Fmt} {s : Bool} {x : ℚ}

theorem signRat_mul_self (s : Bool) : signRat s * signRat s = 1 := by cases s <;> simp

theorem abs_signRat_mul (s : Bool) (x : ℚ) : |signRat s * x| = |x| := by
  cases s <;> simp

theorem signRat_mul_abs (x : ℚ) : signRat (decide (x < 0)) * |x| = x := by
  by_cases hneg : x < 0
  · simp [hneg, abs_of_neg hneg]
  · simp [hneg, abs_of_nonneg (not_lt.mp hneg)]

theorem signRat_mul_eq_abs (hs : decide (x < 0) = s) : signRat s * x = |x| := by
  subst hs
  by_cases hneg : x < 0
  · simp [hneg, abs_of_neg hneg]
  · simp [hneg, abs_of_nonneg (not_lt.mp hneg)]

theorem signRat_mul_signRat_mul (s : Bool) (x : ℚ) : signRat s * (signRat s * x) = x := by
  rw [← mul_assoc, signRat_mul_self, one_mul]

/-- Seen from either side of zero, a pattern is its magnitude or the opposite. -/
theorem signRat_mul_ratOf (F : Fmt) (s : Bool) (q : Pattern F) :
    signRat s * ratOf F q = magVal F (magOf F q) ∨ signRat s * ratOf F q = -magVal F (magOf F q) := by
  rw [ratOf_eq]
  cases s <;> cases signOf F q <;> simp

theorem frac_abs_pos {v : Frac} (hden : 0 < v.den) (hnum : v.num ≠ 0) : 0 < |v.toRat| :=
  abs_pos.mpr (mt (Frac.toRat_eq_zero_iff hden).mp hnum)

end Sides

/-! ### The pattern delivered -/

section Delivered

variable {F : Fmt} {m : RMode} {s zs : Bool} {r : ℚ} {v : Frac} {N : Nat}

theorem deliveredMag_le : deliveredMag F m s N ≤ F.infMag := by
  rw [deliveredMag]
  split
  · omega
  · split <;> omega

theorem deliveredMag_lt : deliveredMag F m s N < 2 ^ (F.width - 1) := deliveredMag_le.trans_lt F.infMag_lt

theorem deliveredMag_of_lt (h : N < F.infMag) : deliveredMag F m s N = N := if_pos h

theorem signOf_round (hden : 0 < v.den) (hnum : v.num ≠ 0) : signOf F (round F m v zs).1 = decide (v.toRat < 0) := by
  rw [round_eq hden hnum]
  exact signOf_patternWith _ deliveredMag_lt

theorem magOf_round (hden : 0 < v.den) (hnum : v.num ≠ 0) : magOf F (round F m v zs).1 =
    deliveredMag F m (decide (v.toRat < 0)) (roundMag F m (decide (v.toRat < 0)) |v.toRat|) := by
  rw [round_eq hden hnum]
  exact magOf_patternWith _ deliveredMag_lt

theorem ratOf_round (hden : 0 < v.den) (hnum : v.num ≠ 0) : ratOf F (round F m v zs).1 =
    signRat (decide (v.toRat < 0)) * magVal F (magOf F (round F m v zs).1) := by
  rw [ratOf_eq, signOf_round hden hnum]

theorem flags_round (hden : 0 < v.den) (hnum : v.num ≠ 0) :
    (round F m v zs).2 = roundFlags F m (decide (v.toRat < 0)) |v.toRat| := by
  rw [round_eq hden hnum]

theorem round_eq_infOf (hden : 0 < v.den) (hnum : v.num ≠ 0) (h : magOf F (round F m v zs).1 = F.infMag) :
    (round F m v zs).1 = infOf F (decide (v.toRat < 0)) :=
  pattern_ext ((signOf_round hden hnum).trans (signOf_infOf F _).symm) (h.trans (magOf_infOf F _).symm)

/-! ### Exact values (O36) -/

theorem roundMag_magVal (hN : 0 < N) : roundMag F m s (magVal F N) = N :=
  (roundMag_le (magVal_pos F hN) le_rfl).antisymm (le_roundMag (magVal_pos F hN) le_rfl)

theorem roundFlags_magVal (hN : 0 < N) (hfin : N < F.infMag) : roundFlags F m s (magVal F N) = flagNone := by
  rw [roundFlags, roundMag_magVal hN, if_neg (not_le.mpr hfin), if_pos rfl]

theorem ratOf_neg_iff {a : Pattern F} (hmag : 0 < magOf F a) : ratOf F a < 0 ↔ signOf F a = true := by
  have hpos : 0 < magVal F (magOf F a) := magVal_pos F hmag
  rw [ratOf_eq]
  cases signOf F a
  · simp [hpos.le]
  · simp [hpos]

theorem round_of_representable {a : Pattern F} (hfin : isFinite F a) (hmag : 0 < magOf F a) (hden : 0 < v.den)
    (hv : v.toRat = ratOf F a) : round F m v zs = (a, flagNone) := by
  have habs : |v.toRat| = magVal F (magOf F a) := hv ▸ abs_ratOf F a
  have hnum : v.num ≠ 0 := by
    rw [Ne, ← Frac.toRat_eq_zero_iff hden, ← abs_eq_zero, habs]
    exact (magVal_pos F hmag).ne'
  have hlt : magOf F a < F.infMag := (isFinite_iff a).mp hfin
  have hsign : decide (v.toRat < 0) = signOf F a := by
    simp only [hv, ratOf_neg_iff hmag, Bool.decide_eq_true]
  rw [round_eq hden hnum, hsign, habs, roundMag_magVal hmag, roundFlags_magVal hmag hlt, deliveredMag_of_lt hlt,
    patternWith_signOf_magOf]

end Delivered

/-- Settles O36: a finite number is the only candidate for itself; a sign is kept as it is written with the magnitude. -/
theorem representableValuesRoundToThemselves : Obligations.RepresentableValuesRoundToThemselves := by
  refine ⟨fun F m zs a hfin hzero => ?_, fun F m zs v hden => ⟨fun hv => ?_, fun hv => ?_⟩⟩
  · have hmag : 0 < magOf F a := Nat.pos_of_ne_zero (mt (isZero_iff a).mpr (Bool.eq_false_iff.mp hzero))
    exact round_of_representable hfin hmag (val_den_pos F a) (val_eq F a)
  · rw [round_of_zero F m zs ((Frac.toRat_eq_zero_iff hden).mp hv)]
    exact ⟨rfl, (isZero_iff _).mpr (magOf_zeroOf F zs), signOf_zeroOf F zs⟩
  · exact signOf_round hden (mt (Frac.toRat_eq_zero_iff hden).mpr hv)

/-! ### The directed modes (O37) -/

section Directed

variable {F : Fmt} {m : RMode} {s zs : Bool} {r : ℚ} {v : Frac}

/-- The mode rounds numbers of sign s toward zero. -/
def TowardZero (m : RMode) (s : Bool) : Prop := m = .rtz ∨ m = .rdn ∧ s = false ∨ m = .rup ∧ s = true

/-- The mode rounds numbers of sign s away from zero. -/
def AwayFromZero (m : RMode) (s : Bool) : Prop := m = .rdn ∧ s = true ∨ m = .rup ∧ s = false

theorem roundMag_of_toward (hr : 0 < r) (hm : TowardZero m s) : roundMag F m s r = floorMag F r := by
  rw [roundMag_eq hr]
  rcases hm with rfl | ⟨rfl, rfl⟩ | ⟨rfl, rfl⟩ <;> simp [roundsUp]

theorem overflowToInf_of_toward (hm : TowardZero m s) : overflowToInf m s = false := by
  rcases hm with rfl | ⟨rfl, rfl⟩ | ⟨rfl, rfl⟩ <;> rfl

theorem overflowToInf_of_away (hm : AwayFromZero m s) : overflowToInf m s = true := by
  rcases hm with ⟨rfl, rfl⟩ | ⟨rfl, rfl⟩ <;> rfl

/-- Toward zero: the greatest finite magnitude not above r. -/
theorem deliveredMag_toward (hr : 0 < r) (hm : TowardZero m s) :
    deliveredMag F m s (roundMag F m s r) < F.infMag ∧ magVal F (deliveredMag F m s (roundMag F m s r)) ≤ r ∧
      ∀ M < F.infMag, magVal F M ≤ r → M ≤ deliveredMag F m s (roundMag F m s r) := by
  have hpos := F.infMag_pos
  have hlow : magVal F (floorMag F r) ≤ r := magVal_floorMag_le hr
  have hgreatest : ∀ M, magVal F M ≤ r → M ≤ floorMag F r := fun M hM =>
    Nat.le_of_lt_succ ((magVal_lt_iff F).mp (hM.trans_lt (lt_magVal_floorMag_succ hr)))
  rw [roundMag_of_toward hr hm, deliveredMag, overflowToInf_of_toward hm]
  by_cases hfin : floorMag F r < F.infMag
  · rw [if_pos hfin]
    exact ⟨hfin, hlow, fun M _ => hgreatest M⟩
  · rw [if_neg hfin, if_neg Bool.false_ne_true]
    exact ⟨by omega, ((magVal_le_iff F).mpr (by omega)).trans hlow, fun M hM _ => by omega⟩

theorem roundMag_of_away (hr : 0 < r) (hm : AwayFromZero m s) : r ≤ magVal F (roundMag F m s r) := by
  have hhigh := lt_magVal_floorMag_succ (F := F) hr
  have hup : roundsUp m s (decide (floorMag F r % 2 = 1)) (magVal F (floorMag F r)) r (magVal F (floorMag F r + 1)) =
      decide (magVal F (floorMag F r) < r) := by
    rcases hm with ⟨rfl, rfl⟩ | ⟨rfl, rfl⟩ <;> simp [roundsUp]
  rw [roundMag_eq hr, hup]
  split
  · exact hhigh.le
  · next h => exact not_lt.mp fun hlt => h (decide_eq_true hlt)

/-- Away from zero: the least finite magnitude not below r, or infinity where there is none. -/
theorem deliveredMag_away (hr : 0 < r) (hm : AwayFromZero m s) :
    (deliveredMag F m s (roundMag F m s r) < F.infMag ∧ r ≤ magVal F (deliveredMag F m s (roundMag F m s r)) ∧
      ∀ M, r ≤ magVal F M → deliveredMag F m s (roundMag F m s r) ≤ M) ∨
    (deliveredMag F m s (roundMag F m s r) = F.infMag ∧ ∀ M < F.infMag, magVal F M < r) := by
  rw [deliveredMag, overflowToInf_of_away hm]
  by_cases hfin : roundMag F m s r < F.infMag
  · rw [if_pos hfin]
    exact .inl ⟨hfin, roundMag_of_away hr hm, fun M => roundMag_le hr⟩
  · rw [if_neg hfin, if_pos rfl]
    exact .inr ⟨rfl, fun M hM => not_le.mp fun h => by have := roundMag_le (m := m) (s := s) hr h; omega⟩

/-- Seen from the side of the number rounded, the delivered number is its magnitude. -/
theorem signRat_mul_ratOf_round (hden : 0 < v.den) (hnum : v.num ≠ 0) (hs : decide (v.toRat < 0) = s) :
    signRat s * ratOf F (round F m v zs).1 = magVal F (deliveredMag F m s (roundMag F m s |v.toRat|)) := by
  rw [ratOf_round hden hnum, hs, signRat_mul_signRat_mul, magOf_round hden hnum, hs]

theorem isFinite_round_iff (hden : 0 < v.den) (hnum : v.num ≠ 0) (hs : decide (v.toRat < 0) = s) :
    isFinite F (round F m v zs).1 ↔ deliveredMag F m s (roundMag F m s |v.toRat|) < F.infMag := by
  rw [isFinite_iff, magOf_round hden hnum, hs]

theorem round_toward (hden : 0 < v.den) (hnum : v.num ≠ 0) (hs : decide (v.toRat < 0) = s) (hm : TowardZero m s) :
    isFinite F (round F m v zs).1 ∧ signRat s * ratOf F (round F m v zs).1 ≤ signRat s * v.toRat ∧
      ∀ q, isFinite F q → signRat s * ratOf F q ≤ signRat s * v.toRat →
        signRat s * ratOf F q ≤ signRat s * ratOf F (round F m v zs).1 := by
  obtain ⟨hfin, hle, hgreatest⟩ := deliveredMag_toward (F := F) (frac_abs_pos hden hnum) hm
  rw [isFinite_round_iff hden hnum hs, signRat_mul_ratOf_round hden hnum hs, signRat_mul_eq_abs hs]
  refine ⟨hfin, hle, fun q hq hqle => ?_⟩
  rcases signRat_mul_ratOf F s q with hmag | hmag
  · rw [hmag] at hqle ⊢
    exact (magVal_le_iff F).mpr (hgreatest _ ((isFinite_iff q).mp hq) hqle)
  · rw [hmag]
    exact (neg_nonpos.mpr (magVal_nonneg F _)).trans (magVal_nonneg F _)

theorem round_away (hden : 0 < v.den) (hnum : v.num ≠ 0) (hs : decide (v.toRat < 0) = s) (hm : AwayFromZero m s) :
    (isFinite F (round F m v zs).1 ∧ signRat s * v.toRat ≤ signRat s * ratOf F (round F m v zs).1 ∧
      ∀ q, isFinite F q → signRat s * v.toRat ≤ signRat s * ratOf F q →
        signRat s * ratOf F (round F m v zs).1 ≤ signRat s * ratOf F q) ∨
    ((round F m v zs).1 = infOf F s ∧ ∀ q, isFinite F q → signRat s * ratOf F q < signRat s * v.toRat) := by
  have hr : 0 < |v.toRat| := frac_abs_pos hden hnum
  rw [isFinite_round_iff hden hnum hs, signRat_mul_ratOf_round hden hnum hs, signRat_mul_eq_abs hs]
  rcases deliveredMag_away (F := F) hr hm with ⟨hfin, hle, hleast⟩ | ⟨hinf, hbelow⟩
  · refine .inl ⟨hfin, hle, fun q _ hqle => ?_⟩
    rcases signRat_mul_ratOf F s q with hmag | hmag
    · rw [hmag] at hqle ⊢
      exact (magVal_le_iff F).mpr (hleast _ hqle)
    · rw [hmag] at hqle
      exact absurd (hr.trans_le hqle) (neg_nonpos.mpr (magVal_nonneg F _)).not_gt
  · refine .inr ⟨hs ▸ round_eq_infOf hden hnum ?_, fun q hq => ?_⟩
    · rw [magOf_round hden hnum, hs, hinf]
    · rcases signRat_mul_ratOf F s q with hmag | hmag
      · rw [hmag]
        exact hbelow _ ((isFinite_iff q).mp hq)
      · rw [hmag]
        exact (neg_nonpos.mpr (magVal_nonneg F _)).trans_lt hr

/-- `rtz` compares sizes. -/
theorem round_rtz (hden : 0 < v.den) (hnum : v.num ≠ 0) :
    isFinite F (round F .rtz v zs).1 ∧ |ratOf F (round F .rtz v zs).1| ≤ |v.toRat| ∧
      ∀ q, isFinite F q → |ratOf F q| ≤ |v.toRat| → |ratOf F q| ≤ |ratOf F (round F .rtz v zs).1| := by
  have htoward : TowardZero .rtz (decide (v.toRat < 0)) := .inl rfl
  obtain ⟨hfin, hle, hgreatest⟩ := deliveredMag_toward (F := F) (frac_abs_pos hden hnum) htoward
  rw [isFinite_round_iff hden hnum rfl, abs_ratOf, magOf_round hden hnum]
  refine ⟨hfin, hle, fun q hq hqle => ?_⟩
  rw [abs_ratOf] at hqle ⊢
  exact (magVal_le_iff F).mpr (hgreatest _ ((isFinite_iff q).mp hq) hqle)

end Directed

/-- Settles O37: below zero RDN goes away from zero and RUP toward it, above zero the other way round. -/
theorem directedRoundingIsTightest : Obligations.DirectedRoundingIsTightest := by
  intro F v zs hden hnum
  obtain ⟨hfin, hle, hgreatest⟩ := round_rtz (F := F) (zs := zs) hden hnum
  refine ⟨?_, ?_, ⟨hfin, signOf_round hden hnum, hle, hgreatest⟩, signOf_round hden hnum, signOf_round hden hnum⟩
  · cases hs : decide (v.toRat < 0) with
    | false => exact .inl (by simpa using round_toward (m := .rdn) hden hnum hs (.inr (.inl ⟨rfl, rfl⟩)))
    | true => simpa using round_away (m := .rdn) hden hnum hs (.inl ⟨rfl, rfl⟩)
  · cases hs : decide (v.toRat < 0) with
    | false => simpa using round_away (m := .rup) hden hnum hs (.inr ⟨rfl, rfl⟩)
    | true => exact .inl (by simpa using round_toward (m := .rup) hden hnum hs (.inr (.inr ⟨rfl, rfl⟩)))

/-! ### The nearest modes (O38) -/

section Nearest

variable {F : Fmt} {m : RMode} {s zs : Bool} {r y : ℚ} {v : Frac}

/-- No number lies strictly between a magnitude and the next. -/
theorem le_or_le_of_magVal (N : Nat) (hy : ∃ M, y = magVal F M ∨ y = -magVal F M) :
    y ≤ magVal F N ∨ magVal F (N + 1) ≤ y := by
  obtain ⟨M, rfl | rfl⟩ := hy
  · rw [magVal_le_iff, magVal_le_iff]
    omega
  · exact .inl ((neg_nonpos.mpr (magVal_nonneg F M)).trans (magVal_nonneg F N))

/-- What the test of a nearest mode says of the two distances. -/
theorem roundsUp_nearest_iff {odd : Bool} {a x b : ℚ} (hm : m = .rne ∨ m = .rmm) (hb : x < b) :
    roundsUp m s odd a x b = true ↔ b - x < x - a ∨ b - x = x - a ∧ (m = .rne → odd = true) := by
  have hpos : b - x ≤ x - a → a < x := fun h => by linarith
  rcases hm with rfl | rfl
  · simp only [roundsUp, Bool.and_eq_true, Bool.or_eq_true, decide_eq_true_eq, forall_const]
    exact and_iff_right_of_imp fun h => hpos (h.elim le_of_lt fun h => h.1.le)
  · simp only [roundsUp, Bool.and_eq_true, decide_eq_true_eq, reduceCtorEq, false_imp_iff, and_true, ← le_iff_lt_or_eq]
    exact and_iff_right_of_imp hpos

/-- The magnitude given is nearest among all numbers; of two as near it is the even or the larger one. -/
theorem roundMag_nearest (hr : 0 < r) (hm : m = .rne ∨ m = .rmm) (hy : ∃ M, y = magVal F M ∨ y = -magVal F M) :
    |magVal F (roundMag F m s r) - r| ≤ |y - r| ∧
      (|magVal F (roundMag F m s r) - r| = |y - r| → y ≠ magVal F (roundMag F m s r) →
        (m = .rne → roundMag F m s r % 2 = 0) ∧ (m = .rmm → |y| < magVal F (roundMag F m s r))) := by
  have hlow := magVal_floorMag_le (F := F) hr
  have hhigh := lt_magVal_floorMag_succ (F := F) hr
  have hup := roundsUp_nearest_iff (s := s) (odd := decide (floorMag F r % 2 = 1)) (a := magVal F (floorMag F r))
    hm hhigh
  have hside := le_or_le_of_magVal (F := F) (floorMag F r) hy
  have hnonneg := magVal_nonneg F (floorMag F r)
  rw [roundMag_eq hr]
  split
  · next h =>
    rw [hup, decide_eq_true_eq] at h
    have hnear : magVal F (floorMag F r + 1) - r ≤ r - magVal F (floorMag F r) := h.elim le_of_lt fun h => h.1.le
    rw [abs_of_nonneg (by linarith)]
    rcases hside with hy | hy
    · rw [abs_of_nonpos (by linarith)]
      refine ⟨by linarith, fun htie _ => ?_⟩
      have hya : y = magVal F (floorMag F r) := by linarith
      have hodd := (h.resolve_left (by linarith)).2
      exact ⟨fun hne => by have := hodd hne; omega, fun _ => by rw [hya, abs_of_nonneg hnonneg]; linarith⟩
    · rw [abs_of_nonneg (by linarith)]
      exact ⟨by linarith, fun htie hne => absurd (by linarith) hne⟩
  · next h =>
    rw [hup, decide_eq_true_eq, not_or, not_lt, not_and] at h
    obtain ⟨hnear, hodd⟩ := h
    rw [abs_of_nonpos (by linarith)]
    rcases hside with hy | hy
    · rw [abs_of_nonpos (by linarith)]
      exact ⟨by linarith, fun htie hne => absurd (by linarith) hne⟩
    · rw [abs_of_nonneg (by linarith)]
      refine ⟨by linarith, fun htie _ => ?_⟩
      obtain ⟨hne, hpar⟩ := Classical.not_imp.mp (hodd (by linarith))
      exact ⟨fun _ => by omega, fun hmm => absurd (hne.symm.trans hmm) (by decide)⟩

/-- Half way between the largest finite number and the next (R407). -/
theorem threshold_eq (F : Fmt) : (2 - (2 : ℚ) ^ (-(F.prec : Int))) * (2 : ℚ) ^ F.emax =
    (magVal F (F.infMag - 1) + magVal F F.infMag) / 2 := by
  rw [magVal_maxFinite, magVal_infMag, zpow_add_one₀ two_ne_zero, sub_eq_add_neg 1 (F.prec : Int), zpow_one_add₀ two_ne_zero]
  ring

/-- The nearest modes overflow from that number on. -/
theorem roundMag_lt_infMag_iff (hr : 0 < r) (hm : m = .rne ∨ m = .rmm) : roundMag F m s r < F.infMag ↔
    r < (magVal F (F.infMag - 1) + magVal F F.infMag) / 2 := by
  have hpos := F.infMag_pos
  have heven := F.infMag_even
  have hlt : magVal F (F.infMag - 1) < magVal F F.infMag := (magVal_lt_iff F).mpr (by omega)
  have hmax := roundMag_nearest (F := F) (s := s) hr hm ⟨F.infMag - 1, .inl rfl⟩
  have hinf := roundMag_nearest (F := F) (s := s) hr hm ⟨F.infMag, .inl rfl⟩
  constructor
  · intro hfin
    have hle : magVal F (roundMag F m s r) ≤ magVal F (F.infMag - 1) := (magVal_le_iff F).mpr (by omega)
    have hbelow : r < magVal F F.infMag := not_le.mp fun h => by
      have := le_roundMag (m := m) (s := s) hr h
      omega
    by_contra hover
    rw [not_lt] at hover
    obtain ⟨hnear, htie⟩ := hinf
    rw [abs_of_nonpos (by linarith), abs_of_nonneg (by linarith)] at hnear htie
    have hmag : roundMag F m s r = F.infMag - 1 := (magVal_inj F).mp (by linarith)
    obtain ⟨hev, hlarge⟩ := htie (by rw [hmag]; linarith [hmag ▸ hnear]) (by rw [hmag]; exact hlt.ne')
    rcases hm with rfl | rfl
    · have := hev rfl
      omega
    · have hsize := (le_abs_self _).trans_lt (hlarge rfl)
      rw [hmag] at hsize
      exact hsize.not_gt hlt
  · intro hbelow
    by_contra hover
    have hge : magVal F F.infMag ≤ magVal F (roundMag F m s r) := (magVal_le_iff F).mpr (not_lt.mp hover)
    have habove : magVal F (F.infMag - 1) < r := not_le.mp fun h => by
      have := roundMag_le (m := m) (s := s) hr h
      omega
    obtain ⟨hnear, -⟩ := hmax
    rw [abs_of_nonneg (by linarith), abs_of_nonpos (by linarith)] at hnear
    linarith

theorem fracField_mod_two (a : Pattern F) : fracField F a % 2 = magOf F a % 2 := by
  rw [fracField_eq, Nat.mod_mod_of_dvd _ ⟨_, F.two_pow_fraction⟩]

/-- Below the threshold the pattern delivered is finite and nearest. -/
theorem round_nearest (hden : 0 < v.den) (hnum : v.num ≠ 0) (hm : m = .rne ∨ m = .rmm)
    (hbelow : |v.toRat| < (2 - (2 : ℚ) ^ (-(F.prec : Int))) * (2 : ℚ) ^ F.emax) :
    isFinite F (round F m v zs).1 ∧ ∀ q, isFinite F q →
      |ratOf F (round F m v zs).1 - v.toRat| ≤ |ratOf F q - v.toRat| ∧
      (|ratOf F (round F m v zs).1 - v.toRat| = |ratOf F q - v.toRat| → ratOf F q ≠ ratOf F (round F m v zs).1 →
        (m = .rne → fracField F (round F m v zs).1 % 2 = 0) ∧
        (m = .rmm → |ratOf F q| < |ratOf F (round F m v zs).1|)) := by
  have hr : 0 < |v.toRat| := frac_abs_pos hden hnum
  obtain ⟨s, hs⟩ : ∃ s, decide (v.toRat < 0) = s := ⟨_, rfl⟩
  have hfin : roundMag F m s |v.toRat| < F.infMag := (roundMag_lt_infMag_iff hr hm).mpr (threshold_eq F ▸ hbelow)
  have hmag : magOf F (round F m v zs).1 = roundMag F m s |v.toRat| := by
    rw [magOf_round hden hnum, hs, deliveredMag_of_lt hfin]
  have hside : signRat s * ratOf F (round F m v zs).1 = magVal F (roundMag F m s |v.toRat|) := by
    rw [signRat_mul_ratOf_round hden hnum hs, deliveredMag_of_lt hfin]
  have hdist (x : ℚ) : |x - v.toRat| = |signRat s * x - (|v.toRat|)| := by
    rw [← signRat_mul_eq_abs hs, ← mul_sub, abs_signRat_mul]
  have hinj (x y : ℚ) : signRat s * x = signRat s * y → x = y := fun h => by
    rw [← signRat_mul_signRat_mul s x, h, signRat_mul_signRat_mul]
  refine ⟨(isFinite_iff _).mpr (hmag ▸ hfin), fun q _ => ?_⟩
  obtain ⟨hnear, htie⟩ := roundMag_nearest (s := s) hr hm
    (⟨magOf F q, signRat_mul_ratOf F s q⟩ : ∃ M, signRat s * ratOf F q = magVal F M ∨ signRat s * ratOf F q = -magVal F M)
  rw [hdist, hdist, hside]
  refine ⟨hnear, fun heq hne => ?_⟩
  obtain ⟨hev, hlarge⟩ := htie heq fun h => hne (hinj _ _ (h.trans hside.symm))
  rw [fracField_mod_two, hmag, abs_ratOf F (round F m v zs).1, hmag, ← abs_signRat_mul s (ratOf F q)]
  exact ⟨hev, hlarge⟩

/-- From the threshold on it is infinity. -/
theorem round_overflow (hden : 0 < v.den) (hnum : v.num ≠ 0) (hm : m = .rne ∨ m = .rmm)
    (habove : (2 - (2 : ℚ) ^ (-(F.prec : Int))) * (2 : ℚ) ^ F.emax ≤ |v.toRat|) :
    (round F m v zs).1 = infOf F (decide (v.toRat < 0)) := by
  have hinf : overflowToInf m (decide (v.toRat < 0)) = true := by rcases hm with rfl | rfl <;> rfl
  have hover : ¬ roundMag F m (decide (v.toRat < 0)) |v.toRat| < F.infMag := by
    rw [roundMag_lt_infMag_iff (frac_abs_pos hden hnum) hm, ← threshold_eq]
    exact not_lt.mpr habove
  refine round_eq_infOf hden hnum ?_
  rw [magOf_round hden hnum, deliveredMag, if_neg hover, if_pos hinf]

end Nearest

/-- Settles O38: below the threshold the magnitude is nearest, from it on infinite; the sign is that of the number. -/
theorem nearestRoundingIsNearest : Obligations.NearestRoundingIsNearest := by
  intro F v zs hden hnum
  refine ⟨fun hbelow => ?_, fun habove => ⟨round_overflow hden hnum (.inl rfl) habove,
    round_overflow hden hnum (.inr rfl) habove⟩, signOf_round hden hnum, signOf_round hden hnum⟩
  obtain ⟨hevenFin, heven⟩ := round_nearest (zs := zs) hden hnum (.inl rfl) hbelow
  obtain ⟨hlargeFin, hlarge⟩ := round_nearest (zs := zs) hden hnum (.inr rfl) hbelow
  exact ⟨⟨hevenFin, fun q hq => (heven q hq).imp_right fun h heq hne => (h heq hne).1 rfl⟩,
    ⟨hlargeFin, fun q hq => (hlarge q hq).imp_right fun h heq hne => (h heq hne).2 rfl⟩⟩

end Sys2Proof.Machine
end

section
/-! PROOFS. The flags of `round` (47_fp_single.md R406, R407). -/

namespace Sys2Proof.Machine

open Sys2Proof

section RoundFlags

variable {F : Fmt} {m : RMode} {s zs : Bool} {r : ℚ} {v : Frac}

theorem roundFlags_cases (F : Fmt) (m : RMode) (s : Bool) (r : ℚ) : roundFlags F m s r = flagNone ∨
    roundFlags F m s r = flagNX ∨ roundFlags F m s r = flagUF ||| flagNX ∨ roundFlags F m s r = flagOF ||| flagNX := by
  rw [roundFlags]
  split
  · exact .inr (.inr (.inr rfl))
  · split
    · exact .inl rfl
    · split
      · exact .inr (.inr (.inl rfl))
      · exact .inr (.inl rfl)

theorem round_flags_cases (F : Fmt) (m : RMode) (v : Frac) (zs : Bool) (hden : 0 < v.den) :
    (round F m v zs).2 = flagNone ∨ (round F m v zs).2 = flagNX ∨ (round F m v zs).2 = flagUF ||| flagNX ∨
      (round F m v zs).2 = flagOF ||| flagNX := by
  by_cases hnum : v.num = 0
  · exact .inl (by rw [round_of_zero F m zs hnum])
  · rw [flags_round hden hnum]
    exact roundFlags_cases F m _ _

theorem roundFlags_eq_OF_iff (hr : 0 < r) :
    roundFlags F m s r = flagOF ||| flagNX ↔ magVal F (F.infMag - 1) < unboundedRound F m s r := by
  rw [maxFinite_lt_iff hr, roundFlags]
  split
  · next h => exact iff_of_true rfl h
  · next h =>
    refine iff_of_false ?_ h
    split
    · decide
    · split <;> decide

/-- No flag, exactly where the magnitude delivered is finite and the number itself. -/
theorem roundFlags_eq_none_iff (hr : 0 < r) : roundFlags F m s r = flagNone ↔
    deliveredMag F m s (roundMag F m s r) < F.infMag ∧ magVal F (deliveredMag F m s (roundMag F m s r)) = r := by
  have hpos := F.infMag_pos
  by_cases hover : F.infMag ≤ roundMag F m s r
  · have hflags : roundFlags F m s r ≠ flagNone := by
      rw [roundFlags, if_pos hover]
      decide
    refine iff_of_false hflags fun ⟨hfin, hexact⟩ => ?_
    have := roundMag_le (m := m) (s := s) hr hexact.ge
    omega
  · rw [deliveredMag_of_lt (not_le.mp hover), roundFlags, if_neg hover]
    by_cases hexact : magVal F (roundMag F m s r) = r
    · rw [if_pos hexact]
      exact iff_of_true rfl ⟨not_le.mp hover, hexact⟩
    · rw [if_neg hexact]
      refine iff_of_false ?_ fun h => hexact h.2
      split <;> decide

theorem not_overflow_of_tiny (hr : 0 < r) (htiny : unboundedRound F m s r < (2 : ℚ) ^ F.emin) :
    roundMag F m s r < F.infMag := by
  rw [← not_le, ← maxFinite_lt_iff hr, not_lt]
  refine htiny.le.trans ?_
  have hlt := F.two_pow_fraction_lt_infMag
  rw [← magVal_minNormal, magVal_le_iff]
  omega

theorem roundFlags_eq_UF_iff (hr : 0 < r) : roundFlags F m s r = flagUF ||| flagNX ↔
    unboundedRound F m s r < (2 : ℚ) ^ F.emin ∧ magVal F (deliveredMag F m s (roundMag F m s r)) ≠ r := by
  by_cases htiny : unboundedRound F m s r < (2 : ℚ) ^ F.emin
  · have hfin := not_overflow_of_tiny hr htiny
    rw [deliveredMag_of_lt hfin, roundFlags, if_neg hfin.not_ge, if_pos htiny, and_iff_right htiny]
    by_cases hexact : magVal F (roundMag F m s r) = r
    · rw [if_pos hexact]
      exact iff_of_false (by decide) (not_not.mpr hexact)
    · rw [if_neg hexact]
      exact iff_of_true rfl hexact
  · refine iff_of_false ?_ fun h => htiny h.1
    rw [roundFlags, if_neg htiny]
    split
    · decide
    · split <;> decide

/-! ### Seen from the pattern delivered -/

theorem ratOf_round_eq_iff (hden : 0 < v.den) (hnum : v.num ≠ 0) : ratOf F (round F m v zs).1 = v.toRat ↔
    magVal F (deliveredMag F m (decide (v.toRat < 0)) (roundMag F m (decide (v.toRat < 0)) |v.toRat|)) = |v.toRat| := by
  rw [← signRat_mul_ratOf_round (zs := zs) hden hnum rfl, ← signRat_mul_eq_abs rfl]
  refine ⟨fun h => by rw [h], fun h => ?_⟩
  rw [← signRat_mul_signRat_mul _ (ratOf F _), h, signRat_mul_signRat_mul]

theorem round_flags_eq_none_iff (hden : 0 < v.den) : (round F m v zs).2 = flagNone ↔
    isFinite F (round F m v zs).1 ∧ ratOf F (round F m v zs).1 = v.toRat := by
  by_cases hnum : v.num = 0
  · have hzero : magOf F (zeroOf F zs) = 0 := magOf_zeroOf F zs
    rw [round_of_zero F m zs hnum, (Frac.toRat_eq_zero_iff hden).mpr hnum, isFinite_iff, ratOf_eq, hzero, magVal_zero,
      mul_zero]
    exact iff_of_true rfl ⟨F.infMag_pos, rfl⟩
  · rw [flags_round hden hnum, roundFlags_eq_none_iff (frac_abs_pos hden hnum), isFinite_round_iff hden hnum rfl,
      ratOf_round_eq_iff hden hnum]

/-- The number of step 1, from its definition by the modes. -/
theorem abs_rounded_eq {e k : Int} (hlow : (2 : ℚ) ^ e ≤ |v.toRat|) (hhigh : |v.toRat| < (2 : ℚ) ^ (e + 1))
    (hk : RoundsToInt m (v.toRat / (2 : ℚ) ^ (e - F.prec + 1)) k) :
    |(k : ℚ) * (2 : ℚ) ^ (e - F.prec + 1)| = unboundedRound F m (decide (v.toRat < 0)) |v.toRat| := by
  have hr : 0 < |v.toRat| := lt_of_lt_of_le (by positivity) hlow
  have hulp : (0 : ℚ) < (2 : ℚ) ^ (e - F.prec + 1) := by positivity
  have hlog : Int.log 2 |v.toRat| = e := by
    rw [two_zpow_le_iff hr] at hlow
    rw [lt_two_zpow_iff hr] at hhigh
    omega
  rw [← signRat_mul_abs v.toRat, mul_div_assoc, roundsToInt_iff (by positivity)] at hk
  rw [hk, cast_signedInt, mul_assoc, abs_signRat_mul, unboundedRound, hlog, abs_of_nonneg (by positivity), Int.cast_natCast]

end RoundFlags

/-- Settles O39: the flags are read off the magnitude delivered and the number of step 1. -/
theorem inexactFlagTellsTheTruth : Obligations.InexactFlagTellsTheTruth := by
  intro F m v zs hden
  refine ⟨round_flags_eq_none_iff hden, round_flags_cases F m v zs hden, fun e k hlow hhigh hk => ?_⟩
  have hr : 0 < |v.toRat| := lt_of_lt_of_le (by positivity) hlow
  have hnum : v.num ≠ 0 := mt (Frac.toRat_eq_zero_iff hden).mpr (abs_pos.mp hr)
  rw [abs_rounded_eq hlow hhigh hk, flags_round hden hnum, ← magVal_maxFinite, Ne, ratOf_round_eq_iff hden hnum]
  exact ⟨roundFlags_eq_OF_iff hr, roundFlags_eq_UF_iff hr⟩

end Sys2Proof.Machine
end

section
/-! PROOFS. The arithmetic operations (47_fp_single.md R408 to R410, R412): the order of the special cases, and one rounding of the
exact number. -/

namespace Sys2Proof.Machine

open Sys2Proof

/-! ### Operands that are no NaN -/

section Operands

variable {F : Fmt} {m : RMode} {a b : Pattern F} {v w : Frac} {zs : Bool}

theorem round_congr (hv : 0 < v.den) (hw : 0 < w.den) (h : v.toRat = w.toRat) : round F m v zs = round F m w zs :=
  roundDependsOnTheValueOnly F m zs v w hv hw h

theorem beq_rdn (m : RMode) : (m == .rdn) = decide (m = .rdn) := rfl

theorem isSNaN_eq_false (h : isNaN F a = false) : isSNaN F a = false := by
  rw [isSNaN, h, Bool.false_and]

theorem isNaN_eq_false_of_isFinite (h : isFinite F a) : isNaN F a = false := Bool.eq_false_iff.mpr (not_isNaN_of_isFinite h)

theorem isInf_eq_false_of_isFinite (h : isFinite F a) : isInf F a = false := Bool.eq_false_iff.mpr (not_isInf_of_isFinite h)

theorem isZero_eq_false_of_isInf (h : isInf F a = true) : isZero F a = false := by
  rw [isInf_iff] at h
  rw [← Bool.not_eq_true, isZero_iff, h]
  exact F.infMag_pos.ne'

theorem isInf_eq_false_of_isZero (h : isZero F a = true) : isInf F a = false := by
  rw [isZero_iff] at h
  rw [← Bool.not_eq_true, isInf_iff, h]
  exact F.infMag_pos.ne

theorem isFinite_of_isZero (h : isZero F a = true) : isFinite F a := by
  rw [isZero_iff] at h
  rw [isFinite_iff, h]
  exact F.infMag_pos

theorem val_num_ne_zero_iff (a : Pattern F) : (val F a).num ≠ 0 ↔ ¬ isZero F a = true := by
  rw [Ne, ← Frac.toRat_eq_zero_iff (val_den_pos F a), val_eq, ← abs_eq_zero, abs_ratOf, ← magVal_zero F, magVal_inj, isZero_iff]

end Operands

/-! ### The sign flipped (R408, R412) -/

section Flip

variable {F : Fmt} (a : Pattern F)

theorem signOf_flipSign : signOf F (flipSign F a) = !signOf F a := by
  have hmask : (patternWith F true 0).getLsbD (F.width - 1) = true := signOf_patternWith true (Nat.two_pow_pos _)
  rw [signOf, flipSign, BitVec.getLsbD_xor, hmask, Bool.xor_true]
  rfl

theorem magOf_flipSign : magOf F (flipSign F a) = magOf F a := by
  have hmask : (patternWith F true 0).toNat % 2 ^ (F.width - 1) = 0 := magOf_patternWith true (Nat.two_pow_pos _)
  rw [magOf, flipSign, BitVec.toNat_xor, Nat.xor_mod_two_pow, hmask, Nat.xor_zero, magOf]

end Flip

/-! ### Addition (R408) -/

section Add

variable {F : Fmt} {m : RMode} {a b : Pattern F}

theorem fpAdd_of_isSNaN (h : isSNaN F a ∨ isSNaN F b) : fpAdd F m a b = (canonicalNaN F, flagNV) :=
  if_pos (Bool.or_eq_true_iff.mpr h)

theorem fpAdd_of_isNaN (hs : ¬ (isSNaN F a ∨ isSNaN F b)) (h : isNaN F a ∨ isNaN F b) :
    fpAdd F m a b = (canonicalNaN F, flagNone) := by
  rw [fpAdd, if_neg (mt Bool.or_eq_true_iff.mp hs), if_pos (Bool.or_eq_true_iff.mpr h)]

theorem fpAdd_of_not_isNaN (ha : isNaN F a = false) (hb : isNaN F b = false) : fpAdd F m a b =
    if isInf F a && isInf F b then if signOf F a = signOf F b then (a, flagNone) else (canonicalNaN F, flagNV)
    else if isInf F a then (a, flagNone)
    else if isInf F b then (b, flagNone)
    else round F m ((val F a).add (val F b))
      (if isZero F a && isZero F b && signOf F a == signOf F b then signOf F a else m == .rdn) := by
  simp [fpAdd, ha, hb, isSNaN_eq_false ha, isSNaN_eq_false hb]

theorem fpAdd_of_isFinite (ha : isFinite F a) (hb : isFinite F b) {v : Frac} (hv : 0 < v.den)
    (hsum : v.toRat = ratOf F a + ratOf F b) : fpAdd F m a b = round F m v
      (if isZero F a ∧ isZero F b ∧ signOf F a = signOf F b then signOf F a else decide (m = .rdn)) := by
  have hval : ((val F a).add (val F b)).toRat = v.toRat := by
    rw [Frac.toRat_add (val_den_pos F a) (val_den_pos F b), val_eq, val_eq, hsum]
  rw [fpAdd_of_not_isNaN (isNaN_eq_false_of_isFinite ha) (isNaN_eq_false_of_isFinite hb), isInf_eq_false_of_isFinite ha,
    isInf_eq_false_of_isFinite hb, round_congr (Frac.den_add_pos (val_den_pos F a) (val_den_pos F b)) hv hval]
  simp [and_assoc, beq_rdn]

end Add

/-- Settles O40: the cases of `fp_add` in order; flipping the sign of b leaves its magnitude. -/
theorem additionIsRoundedExactSum : Obligations.AdditionIsRoundedExactSum := by
  refine fun F m a b => ⟨fpAdd_of_isSNaN, fpAdd_of_isNaN, fun hnan => ?_, rfl, signOf_flipSign b, ?_, ?_⟩
  · obtain ⟨ha, hb⟩ := not_or.mp hnan
    have hcases := fpAdd_of_not_isNaN (m := m) (Bool.eq_false_iff.mpr ha) (Bool.eq_false_iff.mpr hb)
    refine ⟨fun hia hib hsign => ?_, fun hia hib hsign => ?_, fun hia hfb => ?_, fun hfa hib => ?_, fun hfa hfb v hv hsum =>
      fpAdd_of_isFinite hfa hfb hv hsum⟩
    · simp [hcases, hia, hib, hsign]
    · simp [hcases, hia, hib, hsign]
    · simp [hcases, hia, isInf_eq_false_of_isFinite hfb]
    · simp [hcases, hib, isInf_eq_false_of_isFinite hfa]
  · rw [expField_eq, expField_eq, magOf_flipSign]
  · rw [fracField_eq, fracField_eq, magOf_flipSign]

/-! ### Multiplication (R409) -/

section Mul

variable {F : Fmt} {m : RMode} {a b : Pattern F}

theorem fpMul_of_not_isNaN (ha : isNaN F a = false) (hb : isNaN F b = false) : fpMul F m a b =
    if (isInf F a && isZero F b) || (isZero F a && isInf F b) then (canonicalNaN F, flagNV)
    else if isInf F a || isInf F b then (infOf F (signOf F a ^^ signOf F b), flagNone)
    else round F m ((val F a).mul (val F b)) (signOf F a ^^ signOf F b) := by
  simp [fpMul, ha, hb, isSNaN_eq_false ha, isSNaN_eq_false hb]

theorem fpMul_of_isFinite (ha : isFinite F a) (hb : isFinite F b) {v : Frac} (hv : 0 < v.den)
    (hprod : v.toRat = ratOf F a * ratOf F b) : fpMul F m a b = round F m v (signOf F a ^^ signOf F b) := by
  have hval : ((val F a).mul (val F b)).toRat = v.toRat := by rw [Frac.toRat_mul, val_eq, val_eq, hprod]
  rw [fpMul_of_not_isNaN (isNaN_eq_false_of_isFinite ha) (isNaN_eq_false_of_isFinite hb), isInf_eq_false_of_isFinite ha,
    isInf_eq_false_of_isFinite hb, round_congr (Frac.den_mul_pos (val_den_pos F a) (val_den_pos F b)) hv hval]
  simp

end Mul

/-- Settles O41: the cases of `fp_mul` in order. -/
theorem multiplicationIsRoundedExactProduct : Obligations.MultiplicationIsRoundedExactProduct := by
  refine fun F m a b => ⟨fun h => if_pos (Bool.or_eq_true_iff.mpr h), fun hs h => ?_, fun hnan => ?_⟩
  · rw [fpMul, if_neg (mt Bool.or_eq_true_iff.mp hs), if_pos (Bool.or_eq_true_iff.mpr h)]
  · obtain ⟨ha, hb⟩ := not_or.mp hnan
    have hcases := fpMul_of_not_isNaN (m := m) (Bool.eq_false_iff.mpr ha) (Bool.eq_false_iff.mpr hb)
    refine ⟨fun hinvalid => ?_, fun hinf => ?_, fun hfa hfb v hv hprod => fpMul_of_isFinite hfa hfb hv hprod⟩
    · rw [hcases, if_pos (by simpa using hinvalid)]
    · rcases hinf with ⟨hi, hz⟩ | ⟨hi, hz⟩ <;> simp [hcases, hi, hz, isZero_eq_false_of_isInf hi]

/-! ### Division (R410) -/

section Div

variable {F : Fmt} {m : RMode} {a b : Pattern F}

theorem fpDiv_of_not_isNaN (ha : isNaN F a = false) (hb : isNaN F b = false) : fpDiv F m a b =
    if isInf F a then
      if isInf F b then (canonicalNaN F, flagNV) else (infOf F (signOf F a ^^ signOf F b), flagNone)
    else if isInf F b then (zeroOf F (signOf F a ^^ signOf F b), flagNone)
    else if isZero F b then
      if isZero F a then (canonicalNaN F, flagNV) else (infOf F (signOf F a ^^ signOf F b), flagDZ)
    else round F m ((val F a).div (val F b)) (signOf F a ^^ signOf F b) := by
  simp [fpDiv, ha, hb, isSNaN_eq_false ha, isSNaN_eq_false hb]

theorem fpDiv_of_isFinite (ha : isFinite F a) (hb : isFinite F b) (hzero : ¬ isZero F b = true) {v : Frac} (hv : 0 < v.den)
    (hquot : v.toRat = ratOf F a / ratOf F b) : fpDiv F m a b = round F m v (signOf F a ^^ signOf F b) := by
  have hnum : (val F b).num ≠ 0 := (val_num_ne_zero_iff b).mpr hzero
  have hval : ((val F a).div (val F b)).toRat = v.toRat := by rw [Frac.toRat_div hnum, val_eq, val_eq, hquot]
  rw [fpDiv_of_not_isNaN (isNaN_eq_false_of_isFinite ha) (isNaN_eq_false_of_isFinite hb), isInf_eq_false_of_isFinite ha,
    isInf_eq_false_of_isFinite hb, round_congr (Frac.den_div_pos (val_den_pos F a) hnum) hv hval]
  simp [hzero]

end Div

/-- Settles O42: the cases of `fp_div` in order. -/
theorem divisionIsRoundedExactQuotient : Obligations.DivisionIsRoundedExactQuotient := by
  refine fun F m a b => ⟨fun h => if_pos (Bool.or_eq_true_iff.mpr h), fun hs h => ?_, fun hnan => ?_⟩
  · rw [fpDiv, if_neg (mt Bool.or_eq_true_iff.mp hs), if_pos (Bool.or_eq_true_iff.mpr h)]
  · obtain ⟨ha, hb⟩ := not_or.mp hnan
    have hcases := fpDiv_of_not_isNaN (m := m) (Bool.eq_false_iff.mpr ha) (Bool.eq_false_iff.mpr hb)
    refine ⟨fun hinvalid => ?_, fun hia hfb => ?_, fun hfa hib => ?_, fun hfa hza hzb => ?_,
      fun hfa hfb hzb v hv hquot => fpDiv_of_isFinite hfa hfb hzb hv hquot⟩
    · rcases hinvalid with ⟨hia, hib⟩ | ⟨hza, hzb⟩
      · simp [hcases, hia, hib]
      · simp [hcases, hza, hzb, isInf_eq_false_of_isZero hza, isInf_eq_false_of_isZero hzb]
    · simp [hcases, hia, isInf_eq_false_of_isFinite hfb]
    · simp [hcases, hib, isInf_eq_false_of_isFinite hfa]
    · simp [hcases, hza, hzb, isInf_eq_false_of_isFinite hfa, isInf_eq_false_of_isZero hzb]

/-! ### Fused multiply-add (R412) -/

section Fma

variable {F : Fmt} {m : RMode} {a b c : Pattern F}

theorem fpFma_of_valid (h : ¬ ((isInf F a ∧ isZero F b) ∨ (isZero F a ∧ isInf F b))) : fpFma F m a b c =
    if isSNaN F a || isSNaN F b || isSNaN F c then (canonicalNaN F, flagNV)
    else if isNaN F a || isNaN F b || isNaN F c then (canonicalNaN F, flagNone)
    else if isInf F a || isInf F b then
      if isInf F c && signOf F c != (signOf F a ^^ signOf F b) then (canonicalNaN F, flagNV)
      else (infOf F (signOf F a ^^ signOf F b), flagNone)
    else if isInf F c then (c, flagNone)
    else round F m (((val F a).mul (val F b)).add (val F c))
      (if (isZero F a || isZero F b) && isZero F c && (signOf F a ^^ signOf F b) == signOf F c
        then signOf F a ^^ signOf F b else m == .rdn) :=
  if_neg (by simpa using h)

theorem fpFma_of_not_isNaN (h : ¬ ((isInf F a ∧ isZero F b) ∨ (isZero F a ∧ isInf F b))) (ha : isNaN F a = false)
    (hb : isNaN F b = false) (hc : isNaN F c = false) : fpFma F m a b c =
    if isInf F a || isInf F b then
      if isInf F c && signOf F c != (signOf F a ^^ signOf F b) then (canonicalNaN F, flagNV)
      else (infOf F (signOf F a ^^ signOf F b), flagNone)
    else if isInf F c then (c, flagNone)
    else round F m (((val F a).mul (val F b)).add (val F c))
      (if (isZero F a || isZero F b) && isZero F c && (signOf F a ^^ signOf F b) == signOf F c
        then signOf F a ^^ signOf F b else m == .rdn) := by
  simp [fpFma_of_valid h, ha, hb, hc, isSNaN_eq_false ha, isSNaN_eq_false hb, isSNaN_eq_false hc]

theorem fpFma_of_isFinite (ha : isFinite F a) (hb : isFinite F b) (hc : isFinite F c) {v : Frac} (hv : 0 < v.den)
    (hsum : v.toRat = ratOf F a * ratOf F b + ratOf F c) : fpFma F m a b c = round F m v
      (if (isZero F a ∨ isZero F b) ∧ isZero F c ∧ (signOf F a ^^ signOf F b) = signOf F c
        then signOf F a ^^ signOf F b else decide (m = .rdn)) := by
  have hden := Frac.den_mul_pos (val_den_pos F a) (val_den_pos F b)
  have hval : (((val F a).mul (val F b)).add (val F c)).toRat = v.toRat := by
    rw [Frac.toRat_add hden (val_den_pos F c), Frac.toRat_mul, val_eq, val_eq, val_eq, hsum]
  have hia := isInf_eq_false_of_isFinite ha
  have hib := isInf_eq_false_of_isFinite hb
  rw [fpFma_of_not_isNaN (by simp [hia, hib]) (isNaN_eq_false_of_isFinite ha) (isNaN_eq_false_of_isFinite hb)
    (isNaN_eq_false_of_isFinite hc), hia, hib, isInf_eq_false_of_isFinite hc,
    round_congr (Frac.den_add_pos hden (val_den_pos F c)) hv hval]
  simp [and_assoc, beq_rdn]

end Fma

/-- Settles O43: the cases of `fp_fma` in order. -/
theorem fusedMultiplyAddRoundsOnce : Obligations.FusedMultiplyAddRoundsOnce := by
  refine fun F m a b c => ⟨fun h => if_pos (by simpa using h), fun hvalid => ⟨fun hs => ?_, fun hs hn => ?_, fun hnan => ?_⟩⟩
  · rw [fpFma_of_valid hvalid, if_pos (by simpa [or_assoc] using hs)]
  · rw [fpFma_of_valid hvalid, if_neg (by simpa [or_assoc] using hs), if_pos (by simpa [or_assoc] using hn)]
  · obtain ⟨ha, hb, hc⟩ : isNaN F a = false ∧ isNaN F b = false ∧ isNaN F c = false := by simpa using hnan
    have hcases := fpFma_of_not_isNaN (m := m) hvalid ha hb hc
    refine ⟨fun hi hic hsign => ?_, fun hi hwins => ?_, fun hfa hfb hic => ?_,
      fun hfa hfb hfc v hv hsum => fpFma_of_isFinite hfa hfb hfc hv hsum⟩
    · rw [hcases, if_pos (by simpa using hi), if_pos (by simpa using ⟨hic, hsign⟩)]
    · rw [hcases, if_pos (by simpa using hi), if_neg (by simpa using hwins)]
    · simp [hcases, hic, isInf_eq_false_of_isFinite hfa, isInf_eq_false_of_isFinite hfb]

end Sys2Proof.Machine
end

section
/-! PROOFS. Comparisons, minimum and maximum, conversions to and from integers (47_fp_single.md R413 to R417), and what all operations
have in common: canonical NaNs (R403) and the sets of flags (R406). -/

namespace Sys2Proof.Machine

open Sys2Proof

/-! ### The order of the extended reals (R413, R414) -/

section Order

variable {F : Fmt} {a b : Pattern F}

/-- What is no NaN is an infinity, the end of its sign, or a number. -/
theorem extRat_cases (a : Pattern F) : (isInf F a = true ∧ signOf F a = true ∧ extRat F a = ⊥) ∨
    (isInf F a = true ∧ signOf F a = false ∧ extRat F a = ((⊤ : WithTop ℚ) : WithBot (WithTop ℚ))) ∨
    (isInf F a = false ∧ extRat F a = ((ratOf F a : WithTop ℚ) : WithBot (WithTop ℚ))) := by
  cases hinf : isInf F a
  · simp [extRat, hinf]
  · cases hsign : signOf F a <;> simp [extRat, hinf, hsign]

theorem val_lt_iff : (val F a).lt (val F b) = true ↔ ratOf F a < ratOf F b := by
  rw [Frac.lt_iff (val_den_pos F a) (val_den_pos F b), val_eq, val_eq]

theorem val_eq_iff : (val F a).eq (val F b) = true ↔ ratOf F a = ratOf F b := by
  rw [Frac.eq_iff (val_den_pos F a) (val_den_pos F b), val_eq, val_eq]

theorem coe_coe_lt_top (x : ℚ) : ((x : WithTop ℚ) : WithBot (WithTop ℚ)) < ⊤ := WithBot.coe_lt_coe.mpr (WithTop.coe_lt_top x)

theorem extLt_iff : extLt F a b = true ↔ extRat F a < extRat F b := by
  rcases extRat_cases a with ⟨ha, hsa, hea⟩ | ⟨ha, hsa, hea⟩ | ⟨ha, hea⟩
  · rcases extRat_cases b with ⟨hb, hsb, heb⟩ | ⟨hb, hsb, heb⟩ | ⟨hb, heb⟩ <;> simp [extLt, *]
  · simp [extLt, *]
  · rcases extRat_cases b with ⟨hb, hsb, heb⟩ | ⟨hb, hsb, heb⟩ | ⟨hb, heb⟩ <;> simp [extLt, *, val_lt_iff, coe_coe_lt_top]

theorem extEq_iff : extEq F a b = true ↔ extRat F a = extRat F b := by
  rcases extRat_cases a with ⟨ha, hsa, hea⟩ | ⟨ha, hsa, hea⟩ | ⟨ha, hea⟩
  · rcases extRat_cases b with ⟨hb, hsb, heb⟩ | ⟨hb, hsb, heb⟩ | ⟨hb, heb⟩ <;> simp [extEq, *]
  · rcases extRat_cases b with ⟨hb, hsb, heb⟩ | ⟨hb, hsb, heb⟩ | ⟨hb, heb⟩ <;> simp [extEq, *, (coe_coe_lt_top _).ne']
  · rcases extRat_cases b with ⟨hb, hsb, heb⟩ | ⟨hb, hsb, heb⟩ | ⟨hb, heb⟩ <;>
      simp [extEq, *, val_eq_iff, (coe_coe_lt_top _).ne]

end Order

/-- Settles O45: the two tests on patterns are the order and the equality of the extended reals. -/
theorem comparisonsFollowTheExtendedReals : Obligations.ComparisonsFollowTheExtendedReals := by
  intro F a b
  refine ⟨fun hnan => ?_, fun hnan => ?_⟩
  · have hnot : ¬ (isNaN F a || isNaN F b) = true := mt Bool.or_eq_true_iff.mp hnan
    rw [fpEq, fpLt, fpLe, if_neg hnot, if_neg hnot, if_neg hnot]
    refine ⟨extEq_iff, extLt_iff, ?_, rfl, rfl, rfl⟩
    rw [Bool.or_eq_true, extLt_iff, extEq_iff, le_iff_lt_or_eq]
  · have hsome : (isNaN F a || isNaN F b) = true := Bool.or_eq_true_iff.mpr hnan
    rw [fpEq, fpLt, fpLe, if_pos hsome, if_pos hsome, if_pos hsome, flagIfSNaN_eq]
    exact ⟨rfl, rfl, rfl⟩

theorem not_isNaN_of_isZero {F : Fmt} {a : Pattern F} (h : isZero F a = true) : isNaN F a = false :=
  isNaN_eq_false_of_isFinite (isFinite_of_isZero h)

/-- Settles O46: the cases of `fp_min` and `fp_max` in order. -/
theorem minAndMaxPickByOrder : Obligations.MinAndMaxPickByOrder := by
  refine fun F a b => ⟨fun ha hb => ?_, fun ha hb => ?_, fun ha hb => ?_, fun ha hb => ?_, fun ha hb hzero => ?_,
    flagIfSNaN_eq F a b, flagIfSNaN_eq F a b⟩
  · simp [fpMin, fpMax, ha, hb]
  · simp [fpMin, fpMax, ha, hb]
  · simp [fpMin, fpMax, ha, hb]
  · simp [fpMin, fpMax, ha, hb, not_isNaN_of_isZero ha, not_isNaN_of_isZero hb]
  · rw [← Bool.and_eq_true, Bool.not_eq_true] at hzero
    simp only [fpMin, fpMax, ha, hb, hzero, Bool.false_eq_true, Bool.false_and, if_false, ← extLt_iff]
    exact ⟨fun h => if_pos h, fun h => if_neg h, fun h => if_pos h, fun h => if_neg h⟩

/-! ### To integers (R416) -/

theorem signRat_mul_abs_ratOf (F : Fmt) (a : Pattern F) : signRat (signOf F a) * |ratOf F a| = ratOf F a := by
  rw [abs_ratOf, ← ratOf_eq]

theorem rint_abs_val (F : Fmt) (m : RMode) (s : Bool) (a : Pattern F) :
    rint m s (val F a).abs = rintRat m s |ratOf F a| := by
  rw [rint_eq (v := (val F a).abs) (val_den_pos F a) (Int.natCast_nonneg _), Frac.toRat_abs, val_eq]

theorem intLow_le_intHigh (W : Nat) (sgn : Bool) : intLow W sgn ≤ intHigh W sgn := by
  have hhalf : (1 : Int) ≤ 2 ^ (W - 1) := one_le_pow₀ (by decide)
  have hall : (1 : Int) ≤ 2 ^ W := one_le_pow₀ (by decide)
  cases sgn <;> simp only [intLow, intHigh, if_true, Bool.false_eq_true, if_false] <;> omega

theorem fpToInt_of_isFinite {F : Fmt} {a : Pattern F} (m : RMode) (W : Nat) (sgn : Bool) (h : isFinite F a) :
    fpToInt F m a W sgn =
      if signedInt (signOf F a) (rintRat m (signOf F a) |ratOf F a|) < intLow W sgn then (intLow W sgn, flagNV)
      else if intHigh W sgn < signedInt (signOf F a) (rintRat m (signOf F a) |ratOf F a|) then (intHigh W sgn, flagNV)
      else (signedInt (signOf F a) (rintRat m (signOf F a) |ratOf F a|),
        if (signedInt (signOf F a) (rintRat m (signOf F a) |ratOf F a|) : ℚ) = ratOf F a then flagNone else flagNX) := by
  have hexact (n : Int) : (Frac.ofInt n).eq (val F a) = true ↔ (n : ℚ) = ratOf F a := by
    rw [Frac.eq_iff Nat.one_pos (val_den_pos F a), Frac.toRat_ofInt, val_eq]
  rw [fpToInt, if_neg (not_isNaN_of_isFinite h), if_neg (not_isInf_of_isFinite h)]
  simp only [rint_abs_val, hexact]
  rfl

/-- Settles O47: the integer is the rounding of the number, and the ends of the range lie apart. -/
theorem floatToIntegerRoundsAndSaturates : Obligations.FloatToIntegerRoundsAndSaturates := by
  intro F m a W sgn
  refine ⟨fun hnan => if_pos hnan, fun hinf => ?_, fun hfin _ => ?_⟩
  · rw [fpToInt, if_neg (not_isNaN_of_isInf hinf), if_pos hinf]
  · have hrange := intLow_le_intHigh W sgn
    have hcases := fpToInt_of_isFinite m W sgn hfin
    refine ⟨signedInt (signOf F a) (rintRat m (signOf F a) |ratOf F a|), ?_, fun hlow => ?_, fun hhigh => ?_,
      fun hlow hhigh => ?_⟩
    · have hround := (roundsToInt_iff (m := m) (s := signOf F a) (abs_nonneg (ratOf F a))).mpr rfl
      rwa [signRat_mul_abs_ratOf] at hround
    · rw [hcases, if_pos hlow]
    · rw [hcases, if_neg (hrange.trans hhigh.le).not_gt, if_pos hhigh]
    · rw [hcases, if_neg hlow.not_gt, if_neg hhigh.not_gt]

/-! ### From integers (R417) -/

/-- An integer of at most p digits is a number of the format. -/
theorem exists_ratOf_eq_int (F : Fmt) {n : Int} (hn : n.natAbs < 2 ^ F.prec) (hne : n ≠ 0) :
    ∃ a : Pattern F, isFinite F a ∧ 0 < magOf F a ∧ ratOf F a = n := by
  have hprec : F.emin ≤ 0 ∧ (F.prec : Int) ≤ F.emax + 1 := by cases F <;> decide
  have hexp : F.ulpExp ((F.prec - 1 - F.emin).toNat) = 0 := by
    have := F.prec_pos
    rw [Fmt.ulpExp]
    omega
  obtain ⟨N, hN⟩ := exists_magVal_eq F ((F.prec - 1 - F.emin).toNat) (F.two_pow_prec ▸ hn)
  rw [hexp, zpow_zero, mul_one] at hN
  have hfin : N < F.infMag := by
    rw [← magVal_lt_iff F, hN, magVal_infMag]
    calc (n.natAbs : ℚ)
      _ < (2 : ℚ) ^ (F.prec : Int) := by rw [zpow_natCast]; exact_mod_cast hn
      _ ≤ (2 : ℚ) ^ (F.emax + 1) := zpow_le_zpow_right₀ one_le_two hprec.2
  have hpos : 0 < N := by
    rw [← magVal_lt_iff F, hN, magVal_zero]
    exact_mod_cast Int.natAbs_pos.mpr hne
  have hlt : N < 2 ^ (F.width - 1) := hfin.trans F.infMag_lt
  refine ⟨patternWith F (decide ((n : ℚ) < 0)) N, ?_, ?_, ?_⟩
  · rwa [isFinite_iff, magOf_patternWith _ hlt]
  · rwa [magOf_patternWith _ hlt]
  · rw [ratOf_patternWith F _ hlt, hN, Nat.cast_natAbs, Int.cast_abs, signRat_mul_abs]

theorem round_ofInt_exact (F : Fmt) (m : RMode) (zs : Bool) {n : Int} (hn : n.natAbs < 2 ^ F.prec) :
    (round F m (Frac.ofInt n) zs).2 = flagNone := by
  by_cases hzero : n = 0
  · rw [round_of_zero F m zs hzero]
  · obtain ⟨a, hfin, hmag, ha⟩ := exists_ratOf_eq_int F hn hzero
    rw [round_of_representable hfin hmag Nat.one_pos ((Frac.toRat_ofInt n).trans ha.symm)]

/-- Settles O31: the instructions round the integer of the register; 33 digits are fewer than those of D. -/
theorem integerToFloatRoundsTheInteger : Obligations.IntegerToFloatRoundsTheInteger := by
  refine ⟨fun s fd rs1 rm => ?_, fun m n hlow hhigh => ?_⟩
  · have hword : s.wordSigned rs1 = (s.lowReg rs1).bmod (2 ^ 32) := s.lowWord_readX_toInt rs1
    have hwordU : s.wordUnsigned rs1 = s.lowReg rs1 := s.lowWord_readX_toNat rs1
    exact ⟨inMode_fpFromInt rfl hword rfl rfl, inMode_fpFromInt rfl hwordU rfl rfl,
      only64_fpFromInt rfl (s.signed_readX rs1) rfl rfl rfl, only64_fpFromInt rfl (s.unsigned_readX rs1) rfl rfl rfl,
      inMode_fpFromInt rfl hword rfl rfl, inMode_fpFromInt rfl hwordU rfl rfl,
      only64_fpFromInt rfl (s.signed_readX rs1) rfl rfl rfl, only64_fpFromInt rfl (s.unsigned_readX rs1) rfl rfl rfl⟩
  · exact round_ofInt_exact .double m false (by simp only [Fmt.prec]; omega)

/-! ### What the operations have in common (R403, R406) -/

/-- The answers of the operations that round: the canonical NaN with or without NV, a pattern that needs no rounding, an infinity
of a division by zero, or a rounded number. -/
inductive Answer (F : Fmt) : Flagged F → Prop
  | invalid : Answer F (canonicalNaN F, flagNV)
  | quiet : Answer F (canonicalNaN F, flagNone)
  | exact {p : Pattern F} (h : ¬ isNaN F p = true) : Answer F (p, flagNone)
  | divideByZero {s : Bool} : Answer F (infOf F s, flagDZ)
  | rounded {m : RMode} {v : Frac} {zs : Bool} (h : 0 < v.den) : Answer F (round F m v zs)

section Answers

variable {F : Fmt} {r : Flagged F} {a b p q : Pattern F} {v : Frac} {m : RMode} {s zs : Bool}

theorem not_isNaN_infOf : ¬ isNaN F (infOf F s) = true :=
  not_isNaN_of_isInf ((isInf_iff _).mpr (magOf_infOf F s))

theorem not_isNaN_zeroOf : ¬ isNaN F (zeroOf F s) = true :=
  Bool.eq_false_iff.mp (not_isNaN_of_isZero ((isZero_iff _).mpr (magOf_zeroOf F s)))

theorem not_isNaN_round (hden : 0 < v.den) : ¬ isNaN F (round F m v zs).1 = true := by
  by_cases hnum : v.num = 0
  · rw [round_of_zero F m zs hnum]
    exact not_isNaN_zeroOf
  · rw [isNaN_iff, magOf_round hden hnum, not_lt]
    exact deliveredMag_le

/-- A NaN among the answers is the canonical one. -/
theorem Answer.canonical (h : Answer F r) (hnan : isNaN F r.1 = true) : r.1 = canonicalNaN F := by
  cases h with
  | invalid => rfl
  | quiet => rfl
  | exact hp => exact absurd hnan hp
  | divideByZero => exact absurd hnan not_isNaN_infOf
  | rounded hden => exact absurd hnan (not_isNaN_round hden)

theorem legalFlags_none : LegalFlags flagNone := .inl rfl
theorem legalFlags_NV : LegalFlags flagNV := .inr (.inl rfl)
theorem legalFlags_DZ : LegalFlags flagDZ := .inr (.inr (.inl rfl))
theorem legalFlags_NX : LegalFlags flagNX := .inr (.inr (.inr (.inl rfl)))

theorem legalFlags_round (hden : 0 < v.den) : LegalFlags (round F m v zs).2 := by
  rcases round_flags_cases F m v zs hden with h | h | h | h <;> rw [h]
  · exact legalFlags_none
  · exact legalFlags_NX
  · exact .inr (.inr (.inr (.inr (.inr rfl))))
  · exact .inr (.inr (.inr (.inr (.inl rfl))))

theorem Answer.legalFlags (h : Answer F r) : LegalFlags r.2 := by
  cases h with
  | invalid => exact legalFlags_NV
  | quiet => exact legalFlags_none
  | exact => exact legalFlags_none
  | divideByZero => exact legalFlags_DZ
  | rounded hden => exact legalFlags_round hden

end Answers

section Operations

variable (F G : Fmt) (m : RMode) (a b c : Pattern F)

theorem fpAdd_answer : Answer F (fpAdd F m a b) := by
  have hsum := Frac.den_add_pos (val_den_pos F a) (val_den_pos F b)
  unfold fpAdd
  split_ifs with hs hn hi hsign hia hib
  · exact .invalid
  · exact .quiet
  · exact .exact (not_isNaN_of_isInf (Bool.and_eq_true_iff.mp hi).1)
  · exact .invalid
  · exact .exact (not_isNaN_of_isInf hia)
  · exact .exact (not_isNaN_of_isInf hib)
  all_goals exact .rounded hsum

theorem fpMul_answer : Answer F (fpMul F m a b) := by
  unfold fpMul
  split_ifs
  · exact .invalid
  · exact .quiet
  · exact .invalid
  · exact .exact not_isNaN_infOf
  · exact .rounded (Frac.den_mul_pos (val_den_pos F a) (val_den_pos F b))

theorem fpDiv_answer : Answer F (fpDiv F m a b) := by
  unfold fpDiv
  split_ifs with hs hn hia hib hib hzb hza
  · exact .invalid
  · exact .quiet
  · exact .invalid
  · exact .exact not_isNaN_infOf
  · exact .exact not_isNaN_zeroOf
  · exact .invalid
  · exact .divideByZero
  · exact .rounded (Frac.den_div_pos (val_den_pos F a) ((val_num_ne_zero_iff b).mpr hzb))

theorem sqrtStandIn_den_pos {v : Frac} (n : Nat) (hden : 0 < v.den) : 0 < (sqrtStandIn n v).den :=
  Nat.mul_pos (Nat.two_pow_pos _) hden

theorem fpSqrt_answer : Answer F (fpSqrt F m a) := by
  unfold fpSqrt
  split_ifs with hs hn
  · exact .invalid
  · exact .quiet
  · exact .exact hn
  · exact .invalid
  · exact .exact hn
  · exact .rounded (sqrtStandIn_den_pos F.prec (val_den_pos F a))

theorem fpFma_answer : Answer F (fpFma F m a b c) := by
  have hsum := Frac.den_add_pos (Frac.den_mul_pos (val_den_pos F a) (val_den_pos F b)) (val_den_pos F c)
  unfold fpFma
  split_ifs with hinv hs hn hi hsign hic
  · exact .invalid
  · exact .invalid
  · exact .quiet
  · exact .invalid
  · exact .exact not_isNaN_infOf
  · exact .exact (not_isNaN_of_isInf hic)
  all_goals exact .rounded hsum

theorem fpConvert_answer : Answer G (fpConvert F G m a) := by
  unfold fpConvert
  split_ifs
  · exact .invalid
  · exact .quiet
  · exact .exact not_isNaN_infOf
  · exact .rounded (val_den_pos F a)

end Operations

section Choices

variable {F : Fmt} {a b : Pattern F}

/-- `fp_min` and `fp_max` take an operand only if it is no NaN. -/
theorem canonical_of_pick {q : Pattern F} (hq : ¬ isNaN F a = true → ¬ isNaN F b = true → ¬ isNaN F q = true)
    (hnan : isNaN F (if isNaN F a && isNaN F b then canonicalNaN F else if isNaN F a then b
      else if isNaN F b then a else q) = true) :
    (if isNaN F a && isNaN F b then canonicalNaN F else if isNaN F a then b else if isNaN F b then a else q) =
      canonicalNaN F := by
  split_ifs at hnan ⊢ with hboth ha hb
  · rfl
  · exact absurd (Bool.and_eq_true_iff.mpr ⟨ha, hnan⟩) hboth
  · exact absurd hnan ha
  · exact absurd hnan (hq ha hb)

theorem not_isNaN_ite {p : Prop} [Decidable p] {s : Bool} {x : Bool} (ha : ¬ isNaN F a = true) (hb : ¬ isNaN F b = true) :
    ¬ isNaN F (if x then zeroOf F s else if p then a else b) = true := by
  split_ifs
  · exact not_isNaN_zeroOf
  · exact ha
  · exact hb

end Choices

/-- Settles O49: a NaN among the answers is canonical, and a choice between operands is never for a NaN. -/
theorem naNsAreCanonical : Obligations.NaNsAreCanonical :=
  ⟨⟨rfl, rfl⟩, fun F G m a b c => ⟨(fpAdd_answer F m a b).canonical, (fpAdd_answer F m a (flipSign F b)).canonical,
    (fpMul_answer F m a b).canonical, (fpDiv_answer F m a b).canonical, (fpSqrt_answer F m a).canonical,
    (fpFma_answer F m a b c).canonical, canonical_of_pick not_isNaN_ite, canonical_of_pick not_isNaN_ite,
    (fpConvert_answer F G m a).canonical⟩⟩

theorem legalFlags_ite {p : Prop} [Decidable p] {fl fl' : BitVec 5} (h : LegalFlags fl) (h' : LegalFlags fl') :
    LegalFlags (if p then fl else fl') := by
  split
  · exact h
  · exact h'

theorem fpToInt_legalFlags (F : Fmt) (m : RMode) (a : Pattern F) (W : Nat) (sgn : Bool) : LegalFlags (fpToInt F m a W sgn).2 := by
  by_cases hnan : isNaN F a = true
  · rw [fpToInt, if_pos hnan]
    exact legalFlags_NV
  by_cases hinf : isInf F a = true
  · rw [fpToInt, if_neg hnan, if_pos hinf]
    exact legalFlags_NV
  · rw [fpToInt_of_isFinite m W sgn (isFinite_of_not hnan hinf)]
    split_ifs
    · exact legalFlags_NV
    · exact legalFlags_NV
    · exact legalFlags_none
    · exact legalFlags_NX

/-- Settles O50: the answers have legal flags, and what does not round raises at most NV, or NX alone. -/
theorem flagsComeInLegalSets : Obligations.FlagsComeInLegalSets := by
  intro F G m a b c n W sgn
  have hsnan : LegalFlags (flagIfSNaN F a b) := legalFlags_ite legalFlags_NV legalFlags_none
  refine ⟨(fpAdd_answer F m a b).legalFlags, (fpAdd_answer F m a (flipSign F b)).legalFlags, (fpMul_answer F m a b).legalFlags,
    (fpDiv_answer F m a b).legalFlags, (fpSqrt_answer F m a).legalFlags, (fpFma_answer F m a b c).legalFlags, hsnan, hsnan,
    ?_, ?_, ?_, fpToInt_legalFlags F m a W sgn, legalFlags_round Nat.one_pos, (fpConvert_answer F G m a).legalFlags⟩
  · rw [fpEq_flags]
    exact legalFlags_ite legalFlags_NV legalFlags_none
  · rw [fpLt_flags]
    exact legalFlags_ite legalFlags_NV legalFlags_none
  · rw [fpLe_flags]
    exact legalFlags_ite legalFlags_NV legalFlags_none

end Sys2Proof.Machine
end

section
/-! PROOFS. The square root (47_fp_single.md R411). The fraction that `fp_sqrt` rounds lies on the same side as the root of every
multiple of the root's last digit; the two neighbours of the result and the point half way between them are such multiples. -/

namespace Sys2Proof.Machine

open Sys2Proof

/-! ### The integer root -/

theorem isqrt_bounds {fuel t : Nat} (h : t < 4 ^ fuel) :
    isqrt fuel t * isqrt fuel t ≤ t ∧ t < (isqrt fuel t + 1) * (isqrt fuel t + 1) := by
  induction fuel generalizing t with
  | zero => exact ⟨Nat.zero_le _, h⟩
  | succ fuel ih =>
    obtain ⟨hlow, hhigh⟩ := ih (t := t / 4) (by rw [pow_succ] at h; omega)
    rw [isqrt]
    generalize isqrt fuel (t / 4) = r at hlow hhigh ⊢
    have hlow' : 2 * r * (2 * r) ≤ t := by
      calc 2 * r * (2 * r)
        _ = 4 * (r * r) := by ring
        _ ≤ 4 * (t / 4) := Nat.mul_le_mul_left 4 hlow
        _ ≤ t := Nat.mul_div_le t 4
    have hhigh' : t < (2 * r + 1 + 1) * (2 * r + 1 + 1) := by
      calc t
        _ < 4 * (t / 4 + 1) := by omega
        _ ≤ 4 * ((r + 1) * (r + 1)) := Nat.mul_le_mul_left 4 hhigh
        _ = (2 * r + 1 + 1) * (2 * r + 1 + 1) := by ring
    split
    · next hup => exact ⟨hup, hhigh'⟩
    · next hdown => exact ⟨hlow', not_le.mp hdown⟩

theorem lt_four_pow_log2 (t : Nat) : t < 4 ^ (t.log2 / 2 + 1) :=
  calc t
    _ < 2 ^ (t.log2 + 1) := Nat.lt_log2_self
    _ ≤ 2 ^ (2 * (t.log2 / 2 + 1)) := Nat.pow_le_pow_right (by decide) (by omega)
    _ = 4 ^ (t.log2 / 2 + 1) := pow_mul 2 2 _

/-! ### The fraction that stands for the root -/

section StandIn

variable {v : Frac} {p k : Nat} {y : ℚ}

/-- y is a multiple of the last digit of the root of v, which is 2^-(p+2) in units of v's own denominator. -/
def OnGrid (p : Nat) (v : Frac) (y : ℚ) : Prop := ∃ k : Nat, y = k / (2 ^ (p + 2) * v.den)

/-- The stand-in and the root are on the same side of each multiple of the last digit. -/
theorem sqrtStandIn_compare (hden : 0 < v.den) (hnum : 0 ≤ v.num) (hy : OnGrid p v y) :
    (y ≤ (sqrtStandIn p v).toRat ↔ y ^ 2 ≤ v.toRat) ∧ ((sqrtStandIn p v).toRat ≤ y ↔ v.toRat ≤ y ^ 2) := by
  obtain ⟨k, rfl⟩ := hy
  obtain ⟨n, d⟩ := v
  obtain ⟨n, rfl⟩ := Int.eq_ofNat_of_zero_le hnum
  change 0 < d at hden
  have hd : (0 : ℚ) < d := by positivity
  obtain ⟨t, ht⟩ : ∃ t, t = n * d * 4 ^ (p + 2) := ⟨_, rfl⟩
  obtain ⟨r, hr⟩ : ∃ r, r = isqrt (t.log2 / 2 + 1) t := ⟨_, rfl⟩
  obtain ⟨hlow, hhigh⟩ := isqrt_bounds (lt_four_pow_log2 t)
  rw [← hr] at hlow hhigh
  obtain ⟨δ, hδ⟩ : ∃ δ : Nat, δ = if r * r = t then 0 else 1 := ⟨_, rfl⟩
  have hstand : (sqrtStandIn p ⟨n, d⟩).toRat = ((2 * r + δ : Nat) : ℚ) / (2 ^ (p + 3) * d) := by
    rw [sqrtStandIn, Frac.toRat]
    simp only [Int.toNat_natCast, ← ht, ← hr, hδ]
    push_cast
    split <;> rfl
  have hstep : (k : ℚ) / (2 ^ (p + 2) * d) = ((2 * k : Nat) : ℚ) / (2 ^ (p + 3) * d) := by
    push_cast
    rw [pow_succ 2 (p + 2)]
    field_simp
  have hsquare : ((k : ℚ) / (2 ^ (p + 2) * d)) ^ 2 = ((k * k : Nat) : ℚ) / (4 ^ (p + 2) * d ^ 2) := by
    rw [div_pow, mul_pow, ← pow_mul, mul_comm (p + 2) 2, pow_mul]
    norm_num
    ring
  have hvalue : (Frac.mk n d).toRat = (t : ℚ) / (4 ^ (p + 2) * d ^ 2) := by
    rw [Frac.toRat, ht]
    push_cast
    field_simp
  rw [hsquare, hvalue, hstep, hstand, div_le_div_iff_of_pos_right (by positivity), div_le_div_iff_of_pos_right (by positivity),
    div_le_div_iff_of_pos_right (by positivity), div_le_div_iff_of_pos_right (by positivity), Nat.cast_le, Nat.cast_le,
    Nat.cast_le, Nat.cast_le]
  have hle : k ≤ r ↔ k * k ≤ t :=
    ⟨fun h => (Nat.mul_self_le_mul_self h).trans hlow,
      fun h => Nat.le_of_lt_succ (Nat.mul_self_lt_mul_self_iff.mp (h.trans_lt hhigh))⟩
  by_cases hexact : r * r = t
  · have hge : r ≤ k ↔ t ≤ k * k := by rw [← hexact, Nat.mul_self_le_mul_self_iff]
    rw [if_pos hexact] at hδ
    omega
  · have hge : r < k ↔ t ≤ k * k :=
      ⟨fun h => hhigh.le.trans (Nat.mul_self_le_mul_self h),
        fun h => Nat.mul_self_lt_mul_self_iff.mp ((lt_of_le_of_ne hlow hexact).trans_le h)⟩
    rw [if_neg hexact] at hδ
    omega

/-- The multiples of a power of two that is no less than the last digit of the root. -/
theorem onGrid_mul_two_zpow {d : Nat} {z : Int} (hden : v.den = 2 ^ d) (hz : -((p : Int) + 2 + d) ≤ z) (k : Nat) :
    OnGrid p v (k * (2 : ℚ) ^ z) := by
  refine ⟨k * 2 ^ (z + p + 2 + d).toNat, ?_⟩
  have hexp : (((z + p + 2 + d).toNat : Nat) : Int) = z + ((p + 2 : Nat) : Int) + d := by
    push_cast
    omega
  rw [hden]
  push_cast
  rw [eq_div_iff (by positivity), ← zpow_natCast 2 (p + 2), ← zpow_natCast 2 d, ← zpow_natCast 2 (z + p + 2 + d).toNat, hexp,
    zpow_add₀ two_ne_zero, zpow_add₀ two_ne_zero]
  ring

end StandIn

/-! ### The value of a pattern, and the place of its root -/

section Operand

variable {F : Fmt} {a : Pattern F} {d : Nat}

theorem val_den (F : Fmt) (a : Pattern F) : ∃ d : Nat, (val F a).den = 2 ^ d ∧ (d : Int) ≤ F.prec - 1 - F.emin := by
  have hden (k : Int) (q : Int) : ((Frac.mk k 1).mul (Frac.pow2 q)).den = 2 ^ (-q).toNat := Nat.one_mul _
  have hprec := F.prec_pos
  have hmin : F.emin = 1 - F.emax := F.emin_eq
  have hmax : 0 ≤ F.emax := by cases F <;> decide
  by_cases hsub : expField F a = 0
  · refine ⟨(-(F.emin - F.prec + 1)).toNat, ?_, by omega⟩
    rw [val, if_pos hsub]
    exact hden _ _
  · refine ⟨(-((expField F a : Int) - F.emax - F.prec + 1)).toNat, ?_, by omega⟩
    rw [val, if_neg hsub]
    exact hden _ _

theorem two_zpow_le_val (hden : (val F a).den = 2 ^ d) (hnum : 0 < (val F a).num) :
    (2 : ℚ) ^ (-(d : Int)) ≤ (val F a).toRat := by
  have hone : (1 : ℚ) ≤ (val F a).num := by exact_mod_cast hnum
  rw [Frac.toRat, hden, zpow_neg, zpow_natCast, ← one_div]
  push_cast
  gcongr

/-- y is a multiple of half the last digit of a result near w. -/
def IsHalfDigit (F : Fmt) (w y : ℚ) : Prop := ∃ k : Nat, y = k * (2 : ℚ) ^ (F.ulpExp (binadeOfRat F w) - 1)

/-- The number w is rounded in the place of the root of v: it is on the same side of each number that decides a rounding. -/
structure StandsForRoot (F : Fmt) (v w : ℚ) : Prop where
  minNormal_le : (2 : ℚ) ^ F.emin ≤ w
  le_maxFinite : w ≤ magVal F (F.infMag - 1)
  le_iff {y : ℚ} : IsHalfDigit F w y → (y ≤ w ↔ y ^ 2 ≤ v)
  ge_iff {y : ℚ} : IsHalfDigit F w y → (w ≤ y ↔ v ≤ y ^ 2)

/-- The root of a number with d binary digits after the point is a normal number, and what decides its rounding has fewer than
p + 2 + d digits after the point. -/
theorem sqrtStandIn_standsForRoot (hfin : isFinite F a) (hnum : 0 < (val F a).num) :
    StandsForRoot F (ratOf F a) (sqrtStandIn F.prec (val F a)).toRat := by
  obtain ⟨d, hden, hd⟩ := val_den F a
  have hcompare {y : ℚ} := sqrtStandIn_compare (p := F.prec) (y := y) (val_den_pos F a) hnum.le
  rw [val_eq] at hcompare
  have hrange : F.prec ≤ F.emax ∧ F.emin = 1 - F.emax := by cases F <;> decide
  have hlow : (2 : ℚ) ^ (-(((d + 1) / 2 : Nat) : Int)) ≤ (sqrtStandIn F.prec (val F a)).toRat := by
    have hgrid := onGrid_mul_two_zpow (p := F.prec) (z := -(((d + 1) / 2 : Nat) : Int)) hden (by omega) 1
    rw [Nat.cast_one, one_mul] at hgrid
    rw [(hcompare hgrid).1, ← val_eq]
    refine le_trans ?_ (two_zpow_le_val hden hnum)
    rw [← zpow_natCast, ← zpow_mul]
    exact zpow_le_zpow_right₀ one_le_two (by omega)
  have hpos : 0 < (sqrtStandIn F.prec (val F a)).toRat := lt_of_lt_of_le (by positivity) hlow
  have hlog := (two_zpow_le_iff hpos _).mp hlow
  have hdigit {y : ℚ} (hy : IsHalfDigit F (sqrtStandIn F.prec (val F a)).toRat y) : OnGrid F.prec (val F a) y := by
    obtain ⟨k, rfl⟩ := hy
    refine onGrid_mul_two_zpow hden ?_ k
    rw [ulpExp_binadeOfRat]
    split <;> omega
  refine ⟨le_trans (zpow_le_zpow_right₀ one_le_two (by omega)) hlow, ?_, fun hy => (hcompare (hdigit hy)).1,
    fun hy => (hcompare (hdigit hy)).2⟩
  have hgrid := onGrid_mul_two_zpow (p := F.prec) (z := F.emax) hden (by omega) 1
  rw [Nat.cast_one, one_mul] at hgrid
  calc (sqrtStandIn F.prec (val F a)).toRat
    _ ≤ (2 : ℚ) ^ F.emax := by
      rw [(hcompare hgrid).2]
      calc ratOf F a
        _ ≤ magVal F (magOf F a) := (le_abs_self _).trans_eq (abs_ratOf F a)
        _ ≤ magVal F F.infMag := (magVal_le_iff F).mpr ((isFinite_iff a).mp hfin).le
        _ = (2 : ℚ) ^ (F.emax + 1) := magVal_infMag F
        _ ≤ ((2 : ℚ) ^ F.emax) ^ 2 := by
          rw [← zpow_natCast, ← zpow_mul]
          exact zpow_le_zpow_right₀ one_le_two (by have := F.prec_pos; push_cast; omega)
    _ ≤ magVal F (F.infMag - 1) := by
      have hone : (2 : ℚ) ^ (1 - (F.prec : Int)) ≤ 1 := zpow_le_one_of_nonpos₀ one_le_two (by have := F.prec_pos; omega)
      rw [magVal_maxFinite]
      exact le_mul_of_one_le_left (by positivity) (by linarith)

end Operand

/-! ### The rounding of the stand-in -/

section Rounding

variable {F : Fmt} {m : RMode} {v w : ℚ}

theorem isHalfDigit_neighbours (hw : 0 < w) : IsHalfDigit F w (magVal F (floorMag F w)) ∧
    IsHalfDigit F w (magVal F (floorMag F w + 1)) ∧
    IsHalfDigit F w ((magVal F (floorMag F w) + magVal F (floorMag F w + 1)) / 2) := by
  rw [magVal_floorMag hw, magVal_floorMag_succ hw]
  generalize ⌊w / (2 : ℚ) ^ F.ulpExp (binadeOfRat F w)⌋₊ = f
  refine ⟨⟨2 * f, ?_⟩, ⟨2 * (f + 1), ?_⟩, ⟨2 * f + 1, ?_⟩⟩ <;> rw [zpow_sub_one₀ two_ne_zero] <;> push_cast <;> ring

namespace StandsForRoot

theorem pos (h : StandsForRoot F v w) : 0 < w := lt_of_lt_of_le (by positivity) h.minNormal_le

/-- Numbers compare with the root as with what stands for it: those below w are below its lower neighbour, whose square decides. -/
theorem magVal_le_iff (h : StandsForRoot F v w) (M : Nat) : magVal F M ≤ w ↔ magVal F M ^ 2 ≤ v := by
  obtain ⟨hlow, hhigh, -⟩ := isHalfDigit_neighbours (F := F) h.pos
  have hbelow := magVal_floorMag_le (F := F) h.pos
  have habove := lt_magVal_floorMag_succ (F := F) h.pos
  rcases le_or_le_of_magVal (F := F) (floorMag F w) ⟨M, .inl rfl⟩ with hM | hM
  · exact iff_of_true (hM.trans hbelow) ((pow_le_pow_left₀ (magVal_nonneg F M) hM 2).trans ((h.le_iff hlow).mp hbelow))
  · have hsquare : v < magVal F (floorMag F w + 1) ^ 2 := not_le.mp (mt (h.le_iff hhigh).mpr habove.not_ge)
    exact iff_of_false (habove.trans_le hM).not_ge (hsquare.trans_le (pow_le_pow_left₀ (magVal_nonneg F _) hM 2)).not_ge

theorem le_magVal_iff (h : StandsForRoot F v w) (M : Nat) : w ≤ magVal F M ↔ v ≤ magVal F M ^ 2 := by
  obtain ⟨hlow, hhigh, -⟩ := isHalfDigit_neighbours (F := F) h.pos
  have hbelow := magVal_floorMag_le (F := F) h.pos
  have habove := lt_magVal_floorMag_succ (F := F) h.pos
  rcases le_or_le_of_magVal (F := F) (floorMag F w) ⟨M, .inl rfl⟩ with hM | hM
  · rcases hM.eq_or_lt with heq | hlt
    · rw [heq]
      exact h.ge_iff hlow
    · have hsquare := pow_lt_pow_left₀ hlt (magVal_nonneg F M) two_ne_zero
      exact iff_of_false (hlt.trans_le hbelow).not_ge (hsquare.trans_le ((h.le_iff hlow).mp hbelow)).not_ge
  · exact iff_of_true (habove.le.trans hM)
      (((h.ge_iff hhigh).mp habove.le).trans (pow_le_pow_left₀ (magVal_nonneg F _) hM 2))

theorem magVal_eq_iff (h : StandsForRoot F v w) (M : Nat) : magVal F M = w ↔ magVal F M ^ 2 = v := by
  rw [le_antisymm_iff, le_antisymm_iff, h.magVal_le_iff, h.le_magVal_iff]

theorem roundMag_lt_infMag (h : StandsForRoot F v w) {s : Bool} : roundMag F m s w < F.infMag := by
  have hle := roundMag_le (m := m) (s := s) h.pos h.le_maxFinite
  have hpos := F.infMag_pos
  omega

theorem roundFlags_eq (h : StandsForRoot F v w) {s : Bool} :
    roundFlags F m s w = if magVal F (roundMag F m s w) ^ 2 = v then flagNone else flagNX := by
  rw [roundFlags, if_neg (not_le.mpr h.roundMag_lt_infMag), if_neg (le_unboundedRound h.minNormal_le).not_gt]
  simp only [h.magVal_eq_iff]

/-- Toward zero: the greatest number whose square is at most v. -/
theorem toward (h : StandsForRoot F v w) {s : Bool} (hm : TowardZero m s) : magVal F (roundMag F m s w) ^ 2 ≤ v ∧
    ∀ M, magVal F M ^ 2 ≤ v → magVal F M ≤ magVal F (roundMag F m s w) := by
  simp only [← h.magVal_le_iff, roundMag_of_toward h.pos hm]
  exact ⟨magVal_floorMag_le h.pos, fun M hM => (Machine.magVal_le_iff F).mpr
    (Nat.le_of_lt_succ ((magVal_lt_iff F).mp (hM.trans_lt (lt_magVal_floorMag_succ h.pos))))⟩

/-- Away from zero: the least number whose square is at least v. -/
theorem away (h : StandsForRoot F v w) {s : Bool} (hm : AwayFromZero m s) : v ≤ magVal F (roundMag F m s w) ^ 2 ∧
    ∀ M, v ≤ magVal F M ^ 2 → magVal F (roundMag F m s w) ≤ magVal F M := by
  simp only [← h.le_magVal_iff]
  exact ⟨roundMag_of_away h.pos hm, fun M hM => (Machine.magVal_le_iff F).mpr (roundMag_le h.pos hM)⟩

/-- No midpoint lies strictly between the nearest number and the root. -/
theorem nearest (h : StandsForRoot F v w) {s : Bool} (hm : m = .rne ∨ m = .rmm) (M : Nat) :
    (magVal F (roundMag F m s w) < magVal F M → v ≤ ((magVal F (roundMag F m s w) + magVal F M) / 2) ^ 2) ∧
    (magVal F M < magVal F (roundMag F m s w) → ((magVal F (roundMag F m s w) + magVal F M) / 2) ^ 2 ≤ v) := by
  obtain ⟨hlow, hhigh, hmid⟩ := isHalfDigit_neighbours (F := F) h.pos
  have hbelow := magVal_floorMag_le (F := F) h.pos
  have habove := lt_magVal_floorMag_succ (F := F) h.pos
  have hnonneg := magVal_nonneg F (floorMag F w)
  have hM := magVal_nonneg F M
  have hdown {y : ℚ} (hy : IsHalfDigit F w y) (hyw : y ≤ w) {x : ℚ} (hx : 0 ≤ x) (hxy : x ≤ y) : x ^ 2 ≤ v :=
    (pow_le_pow_left₀ hx hxy 2).trans ((h.le_iff hy).mp hyw)
  have hup {y : ℚ} (hy : IsHalfDigit F w y) (hwy : w ≤ y) (hpos : 0 ≤ y) {x : ℚ} (hyx : y ≤ x) : v ≤ x ^ 2 :=
    ((h.ge_iff hy).mp hwy).trans (pow_le_pow_left₀ hpos hyx 2)
  have htest := roundsUp_nearest_iff (s := s) (odd := decide (floorMag F w % 2 = 1)) (a := magVal F (floorMag F w)) hm habove
  have hside := le_or_le_of_magVal (F := F) (floorMag F w) ⟨M, .inl rfl⟩
  rw [roundMag_eq h.pos]
  split
  · next hround =>
    have hnear := (htest.mp hround).elim le_of_lt fun h => h.1.le
    exact ⟨fun hlt => hup hhigh habove.le (by linarith) (by linarith),
      fun hlt => hdown hmid (by linarith) (by linarith) (by have := hside.resolve_right hlt.not_ge; linarith)⟩
  · next hround =>
    have hnear := not_lt.mp (not_or.mp (mt htest.mpr hround)).1
    exact ⟨fun hlt => hup hmid (by linarith) (by linarith) (by have := hside.resolve_left hlt.not_ge; linarith),
      fun hlt => hdown hlow hbelow (by linarith) (by linarith)⟩

end StandsForRoot

end Rounding

/-! ### The operation (R411) -/

section Root

variable {F : Fmt} {m : RMode} {a q : Pattern F}

theorem ratOf_eq_magVal (hq : 0 ≤ ratOf F q) : ratOf F q = magVal F (magOf F q) := by
  rw [← abs_ratOf, abs_of_nonneg hq]

theorem fpSqrt_of_positive (hfin : isFinite F a) (hzero : isZero F a = false) (hsign : signOf F a = false) :
    fpSqrt F m a = round F m (sqrtStandIn F.prec (val F a)) false := by
  have hnan := isNaN_eq_false_of_isFinite hfin
  simp [fpSqrt, isSNaN_eq_false hnan, hnan, hzero, hsign, isInf_eq_false_of_isFinite hfin]

theorem val_num_pos (hzero : isZero F a = false) (hsign : signOf F a = false) : 0 < (val F a).num := by
  have hnonneg : ¬ ratOf F a < 0 := by
    rw [ratOf_eq, hsign]
    simpa using magVal_nonneg F _
  rw [← val_eq, Frac.toRat_neg_iff (val_den_pos F a)] at hnonneg
  have hne := (val_num_ne_zero_iff a).mpr (by simp [hzero])
  omega

/-- The result for a finite positive number, and its flags. -/
theorem fpSqrt_positive (hfin : isFinite F a) (hzero : isZero F a = false) (hsign : signOf F a = false) :
    ∃ w, StandsForRoot F (ratOf F a) w ∧
      fpSqrt F m a = (patternWith F false (roundMag F m false w), roundFlags F m false w) := by
  have hnum := val_num_pos hzero hsign
  have hroot := sqrtStandIn_standsForRoot hfin hnum
  have hden := sqrtStandIn_den_pos F.prec (val_den_pos F a)
  have hpos := hroot.pos
  refine ⟨_, hroot, ?_⟩
  rw [fpSqrt_of_positive hfin hzero hsign, round_eq hden (mt (Frac.toRat_eq_zero_iff hden).mpr hpos.ne'), abs_of_pos hpos,
    decide_eq_false hpos.not_gt, deliveredMag_of_lt hroot.roundMag_lt_infMag]

end Root

/-- Settles O44: the stand-in lies on the side of the root wherever a rounding is decided, so its rounding is that of the root. -/
theorem squareRootIsCorrectlyRounded : Obligations.SquareRootIsCorrectlyRounded := by
  refine fun F m a => ⟨fun hsnan => if_pos hsnan, fun hnan hquiet => ?_, fun hzero => ?_, fun hnan hzero hsign => ?_,
    fun hinf hsign => ?_, fun hfin hzero hsign => ?_⟩
  · rw [fpSqrt, if_neg hquiet, if_pos hnan]
  · have hnan := isNaN_eq_false_of_isFinite (isFinite_of_isZero hzero)
    simp [fpSqrt, isSNaN_eq_false hnan, hnan, hzero]
  · have hnan' := Bool.eq_false_iff.mpr hnan
    simp [fpSqrt, isSNaN_eq_false hnan', hnan', hzero, hsign]
  · have hnan := Bool.eq_false_iff.mpr (not_isNaN_of_isInf hinf)
    simp [fpSqrt, isSNaN_eq_false hnan, hnan, isZero_eq_false_of_isInf hinf, hsign, hinf]
  · obtain ⟨w, hroot, hres⟩ := fpSqrt_positive (m := m) hfin (Bool.eq_false_iff.mpr hzero) hsign
    have hlt : roundMag F m false w < 2 ^ (F.width - 1) := hroot.roundMag_lt_infMag.trans F.infMag_lt
    have hrat : ratOf F (patternWith F false (roundMag F m false w)) = magVal F (roundMag F m false w) := by
      rw [ratOf_patternWith F false hlt, signRat_false, one_mul]
    rw [hres]
    simp only [hrat]
    refine ⟨?_, magVal_nonneg F _, ?_, fun q hq hqpos => ?_⟩
    · rw [isFinite_iff, magOf_patternWith false hlt]
      exact hroot.roundMag_lt_infMag
    · rw [← sq, hroot.roundFlags_eq]
    · rw [ratOf_eq_magVal hqpos]
      refine ⟨fun hm => ?_, fun hm => ?_, fun hm => hroot.nearest hm _⟩
      · exact (hroot.toward (hm.elim (fun h => .inr (.inl ⟨h, rfl⟩)) .inl)).imp_right (· _)
      · exact (hroot.away (.inr ⟨hm, rfl⟩)).imp_right (· _)

end Sys2Proof.Machine
end

section
/-! PROOFS. The conversions between the formats (48_fp_double.md R488, R489): what is no number by its class, and one rounding of the
number, which from S to D has nothing to round. -/

namespace Sys2Proof.Machine

open Sys2Proof

/-! ### The cases of a conversion -/

section Convert

variable {F G : Fmt} {m : RMode} {a : Pattern F}

theorem fpConvert_of_isSNaN (h : isSNaN F a = true) : fpConvert F G m a = (canonicalNaN G, flagNV) := if_pos h

theorem fpConvert_of_quietNaN (h : isNaN F a = true) (hquiet : ¬ isSNaN F a = true) :
    fpConvert F G m a = (canonicalNaN G, flagNone) := by
  rw [fpConvert, if_neg hquiet, if_pos h]

theorem fpConvert_of_not_isNaN (h : isNaN F a = false) : fpConvert F G m a =
    if isInf F a then (infOf G (signOf F a), flagNone) else round G m (val F a) (signOf F a) := by
  simp [fpConvert, h, isSNaN_eq_false h]

theorem fpConvert_of_isInf (h : isInf F a = true) : fpConvert F G m a = (infOf G (signOf F a), flagNone) := by
  rw [fpConvert_of_not_isNaN (Bool.eq_false_iff.mpr (not_isNaN_of_isInf h)), if_pos h]

theorem fpConvert_of_isFinite (h : isFinite F a) : fpConvert F G m a = round G m (val F a) (signOf F a) := by
  rw [fpConvert_of_not_isNaN (isNaN_eq_false_of_isFinite h), if_neg (not_isInf_of_isFinite h)]

end Convert

/-- Settles O60: the cases in order; the rounding of a finite operand depends on its value only. -/
theorem narrowingToSingleRoundsOnce : Obligations.NarrowingToSingleRoundsOnce := by
  refine fun m a => ⟨fpConvert_of_isSNaN, fpConvert_of_quietNaN, fpConvert_of_isInf, fun hfin v hden hv => ?_⟩
  rw [fpConvert_of_isFinite hfin]
  exact round_congr (val_den_pos .double a) hden ((val_eq .double a).trans hv.symm)

/-! ### The numbers of S are numbers of D (R400) -/

/-- The last place of binade j of S is the last place of binade 925 + j of D, which has more digits. -/
theorem exists_magVal_double_eq {N : Nat} (hN : N < Fmt.single.infMag) :
    ∃ M < Fmt.double.infMag, magVal .double M = magVal .single N := by
  obtain ⟨k, hsplit, hj, hk⟩ := binadeOf_spec .single N
  have hval : magVal .single N = k * (2 : ℚ) ^ Fmt.single.ulpExp (binadeOf .single N) :=
    (congrArg (magVal .single) hsplit).trans (magVal_of_binade .single hj hk.le)
  have hplace : Fmt.double.ulpExp (925 + binadeOf .single N) = Fmt.single.ulpExp (binadeOf .single N) := by
    simp only [Fmt.ulpExp, Fmt.emin, Fmt.prec]
    omega
  obtain ⟨M, hM⟩ := exists_magVal_eq .double (k := k) (925 + binadeOf .single N) (hk.trans (by decide))
  rw [hplace, ← hval] at hM
  refine ⟨M, ?_, hM⟩
  rw [← magVal_lt_iff .double, hM, magVal_infMag]
  calc magVal .single N
    _ < (2 : ℚ) ^ (Fmt.single.emax + 1) := by rw [← magVal_infMag]; exact magVal_strictMono .single hN
    _ ≤ (2 : ℚ) ^ (Fmt.double.emax + 1) := zpow_le_zpow_right₀ one_le_two (by decide)

theorem exists_double_of_single {a : Pattern .single} (hfin : isFinite .single a) : ∃ b : Pattern .double,
    isFinite .double b ∧ signOf .double b = signOf .single a ∧ ratOf .double b = ratOf .single a := by
  obtain ⟨M, hM, hval⟩ := exists_magVal_double_eq ((isFinite_iff a).mp hfin)
  have hlt : M < 2 ^ (Fmt.double.width - 1) := hM.trans Fmt.double.infMag_lt
  refine ⟨patternWith .double (signOf .single a) M, ?_, signOf_patternWith _ hlt, ?_⟩
  · rwa [isFinite_iff, magOf_patternWith _ hlt]
  · rw [ratOf_patternWith .double _ hlt, hval, ratOf_eq]

theorem ratOf_eq_zero_iff {F : Fmt} (a : Pattern F) : ratOf F a = 0 ↔ magOf F a = 0 := by
  rw [← abs_eq_zero, abs_ratOf, ← magVal_zero F, magVal_inj]

/-- A zero is the zero of its sign. -/
theorem eq_zeroOf {F : Fmt} {a : Pattern F} (h : magOf F a = 0) : a = zeroOf F (signOf F a) :=
  pattern_ext (signOf_zeroOf F _).symm (h.trans (magOf_zeroOf F _).symm)

/-- A finite operand with the number and the sign of a pattern of G converts to that pattern, a zero included. -/
theorem fpConvert_of_representable {F G : Fmt} {m : RMode} {a : Pattern F} {b : Pattern G} (ha : isFinite F a)
    (hb : isFinite G b) (hsign : signOf G b = signOf F a) (hrat : ratOf G b = ratOf F a) :
    fpConvert F G m a = (b, flagNone) := by
  rw [fpConvert_of_isFinite ha]
  rcases Nat.eq_zero_or_pos (magOf G b) with hzero | hpos
  · have hnum : (val F a).num = 0 := by
      rw [← Frac.toRat_eq_zero_iff (val_den_pos F a), val_eq, ← hrat, ratOf_eq_zero_iff, hzero]
    rw [round_of_zero G m _ hnum, ← hsign, ← eq_zeroOf hzero]
  · exact round_of_representable hb hpos (val_den_pos F a) ((val_eq F a).trans hrat.symm)

/-- Settles O48: the cases in order; a finite operand has its number and sign among the doubles. -/
theorem wideningToDoubleIsExact : Obligations.WideningToDoubleIsExact := by
  refine fun m a => ⟨fpConvert_of_isSNaN, fpConvert_of_quietNaN, fpConvert_of_isInf, fun hfin => ?_⟩
  obtain ⟨b, hb, hsign, hrat⟩ := exists_double_of_single hfin
  rw [fpConvert_of_representable hfin hb hsign hrat]
  exact ⟨rfl, hb, hsign, hrat⟩

end Sys2Proof.Machine
end

section
/-! PROOFS. The CSR instructions (49_zicsr.md R520 to R526): the three windows on the live bits of fcsr, and an access that writes the
CSR, unless that is suppressed, and then x[rd]. -/

namespace Sys2Proof.Machine

open Sys2Proof

/-! ### The windows (10_state.md R37 to R39) -/

theorem csrImplemented_iff (csr : CsrAddr) : csrImplemented csr = true ↔ csr = 0x001 ∨ csr = 0x002 ∨ csr = 0x003 := by
  simp [csrImplemented, or_assoc]

theorem State.csrRead_toNat (s : State) (csr : CsrAddr) : (s.csrRead csr).toNat = csrView csr s.fcsr.toNat := by
  unfold State.csrRead csrView
  split_ifs
  · rw [BitVec.toNat_setWidth_of_le (by decide), s.fflags_toNat]
  · rw [BitVec.toNat_setWidth_of_le (by decide), s.frm_toNat]
  · rw [BitVec.toNat_setWidth_of_le (by decide)]

theorem State.csrWrite_fcsr_toNat (s : State) (csr : CsrAddr) (v : Word) :
    (s.csrWrite csr v).fcsr.toNat = csrPut csr s.fcsr.toNat v.toNat := by
  unfold State.csrWrite csrPut
  split_ifs
  · rw [State.setFflags_fcsr, append_flags_toNat, s.frm_toNat, BitVec.extractLsb'_toNat, Nat.shiftRight_zero]
  · rw [State.setFrm_fcsr, append_flags_toNat, s.fflags_toNat, BitVec.extractLsb'_toNat, Nat.shiftRight_zero]
  · rw [State.setFcsr_fcsr, BitVec.extractLsb'_toNat, Nat.shiftRight_zero]

theorem frame_csrWrite (s : State) (csr : CsrAddr) (v : Word) : Frame s (s.csrWrite csr v) [] [] [] where
  params := s.csrWrite_params csr v
  xRegs r _ := State.readX_congr (s.csrWrite_params csr v) (s.csrWrite_x csr v) r
  fRegs r _ := congrArg (·[r.toFin]) (s.csrWrite_f csr v)
  memory a _ := congrArg (·.read a) (s.csrWrite_mem csr v)
  fetches c _ := iff_of_eq (congrArg (c ∈ ·) (s.csrWrite_stale csr v))

/-! ### The access (R520) -/

section Access

variable {s u : State} {w : InstWord} {i : Instr} {csr : CsrAddr} {rd : XReg} {v : Word}

/-- The CSR is written first: u is the state in which x[rd] gets the old value. -/
theorem exists_writeX_advance (hexec : exec i s = (u.writeX rd v).retire) (hframe : Frame s u [] [] []) (hpc : u.pc = s.pc)
    (hres : u.res = s.res) (hdraws : u.draws = s.draws) : ∃ t, exec i s = .next t ∧ Holds s t rd v.toNat ∧
      t.fcsr = u.fcsr ∧ Advances s t ∧ Frame s t [rd] [] [] ∧ t.res = s.res ∧ t.draws = s.draws :=
  ⟨_, hexec, hframe.holds_writeX .rfl, u.writeX_fcsr rd v, hframe.advances_writeX hpc, hframe.writeX_advance,
    (u.writeX_res rd v).trans hres, (u.writeX_draws rd v).trans hdraws⟩

theorem accessesCsr_of_csrAccess {writes : Bool} {P : Prop} {new : Word → Word} {n : Nat}
    (hexec : exec i s = s.csrAccess i csr rd writes new) (hP : writes = true ↔ P) (hnew : (new (s.csrRead csr)).toNat = n)
    (henc : encode i = w := by rfl) (hwf : i.wf s.xlen = true := by rfl) : AccessesCsr s w i csr rd P n := by
  subst henc hnew
  refine ⟨decode_of_encode_eq rfl hwf, fun hother => ?_, fun hcsr => ?_⟩
  · have hnot : ¬ csrImplemented csr = true := by simpa [csrImplemented_iff] using hother
    exact hexec.trans (if_neg hnot)
  · rw [State.csrAccess, if_pos ((csrImplemented_iff csr).mpr hcsr)] at hexec
    rw [← hP, ← s.csrRead_toNat, ← s.csrWrite_fcsr_toNat]
    cases writes with
    | true =>
      obtain ⟨t, ht, hold, hfcsr, hrest⟩ := exists_writeX_advance hexec (frame_csrWrite s csr _) (s.csrWrite_pc csr _)
        (s.csrWrite_res csr _) (s.csrWrite_draws csr _)
      exact ⟨t, ht, hold, fun _ => congrArg BitVec.toNat hfcsr, fun h => absurd rfl h, hrest⟩
    | false =>
      obtain ⟨t, ht, hold, hfcsr, hrest⟩ := exists_writeX_advance hexec (Frame.refl s) rfl rfl rfl
      exact ⟨t, ht, hold, nofun, fun _ => hfcsr, hrest⟩

end Access

/-! ### The new values (R521 to R526) -/

section NewValues

variable {s : State} {csr : CsrAddr} {b : Word}

theorem setBits_toNat : (s.csrRead csr ||| b).toNat = csrView csr s.fcsr.toNat ||| b.toNat := by
  rw [BitVec.toNat_or, s.csrRead_toNat]

/-- The bits of a inside b and those outside add up to a. -/
theorem and_not_toNat (a b : Word) : (a &&& ~~~b).toNat = a.toNat - (a.toNat &&& b.toNat) := by
  have hdisjoint : (a &&& ~~~b) &&& (a &&& b) = 0#64 := by
    ext k hk
    cases hb : b[k] <;> simp [hb]
  have hsplit : (a &&& ~~~b) + (a &&& b) = a := by
    rw [BitVec.add_eq_or_of_and_eq_zero _ _ hdisjoint]
    ext k hk
    cases hb : b[k] <;> simp [hb]
  have hsum : (a &&& ~~~b).toNat + (a &&& b).toNat = a.toNat := by
    rw [← BitVec.toNat_add_of_and_eq_zero hdisjoint, hsplit]
  rw [BitVec.toNat_and a b] at hsum
  omega

theorem clearBits_toNat :
    (s.csrRead csr &&& ~~~b).toNat = csrView csr s.fcsr.toNat - (csrView csr s.fcsr.toNat &&& b.toNat) := by
  rw [and_not_toNat, s.csrRead_toNat]

theorem uimm_toNat (uimm : Uimm5) : (uimm.setWidth 64).toNat = uimm.toNat := BitVec.toNat_setWidth_of_le (by decide)

end NewValues

/-- Settles O33: each is a CSR access with its own new value, whose write is suppressed where the source field is 0. -/
theorem csrInstructionsReadAndWrite : Obligations.CsrInstructionsReadAndWrite := by
  intro s rd rs1 uimm csr
  refine ⟨accessesCsr_of_csrAccess (writes := true) (new := fun _ => s.readX rs1) rfl (iff_of_true rfl trivial) rfl,
    accessesCsr_of_csrAccess (writes := rs1 != 0) (new := fun t => t ||| s.readX rs1) rfl bne_iff_ne setBits_toNat,
    accessesCsr_of_csrAccess (writes := rs1 != 0) (new := fun t => t &&& ~~~s.readX rs1) rfl bne_iff_ne clearBits_toNat,
    accessesCsr_of_csrAccess (writes := true) (new := fun _ => uimm.setWidth 64) rfl (iff_of_true rfl trivial)
      (uimm_toNat uimm),
    accessesCsr_of_csrAccess (writes := uimm != 0) (new := fun t => t ||| uimm.setWidth 64) rfl bne_iff_ne ?_,
    accessesCsr_of_csrAccess (writes := uimm != 0) (new := fun t => t &&& ~~~(uimm.setWidth 64)) rfl bne_iff_ne ?_⟩
  · rw [setBits_toNat, uimm_toNat]
  · rw [clearBits_toNat, uimm_toNat]

end Sys2Proof.Machine
end

section
/-! PROOFS. What each operation on the state does to the invariant of reachable states: one that stays within memory, and moves pc
to a multiple of 4, keeps it and the parameters (60_exceptions.md R564). -/

namespace Sys2Proof.Machine

open Sys2Proof

/-- From s to u the invariant is kept, and the parameters with it. -/
def KeepsInv (s u : State) : Prop := s.Inv → u.Inv ∧ u.params = s.params

section Keeps

variable {s t u : State} {a : Word} {n : MemSize}

theorem KeepsInv.refl (s : State) : KeepsInv s s := fun h => ⟨h, rfl⟩

theorem KeepsInv.trans (h : KeepsInv s u) (h' : KeepsInv u t) : KeepsInv s t := fun hs => by
  obtain ⟨hu, hparams⟩ := h hs
  obtain ⟨ht, hparams'⟩ := h' hu
  exact ⟨ht, hparams'.trans hparams⟩

/-- The invariant does not speak of the f registers, of fcsr and of the count of draws. -/
theorem keepsInv_of_fields (hparams : u.params = s.params) (hpc : u.pc = s.pc) (hx : u.x = s.x) (hmem : u.mem = s.mem)
    (hstale : u.stale = s.stale) (hres : u.res = s.res) : KeepsInv s u := by
  intro h
  cases s
  cases u
  cases hparams
  cases hpc
  cases hx
  cases hmem
  cases hstale
  cases hres
  exact ⟨⟨h.params, h.pcAligned, h.pcWidth, h.xZero, h.xWidth, h.memForm, h.memInside, h.staleInside, h.staleForm, h.resSize,
    h.resAligned, h.resInside⟩, rfl⟩

theorem keepsInv_writeF (r : FReg) (v : BitVec 64) : KeepsInv s (s.writeF r v) :=
  keepsInv_of_fields rfl rfl rfl rfl rfl rfl

theorem keepsInv_writeFmt (F : Fmt) (r : FReg) (v : Pattern F) : KeepsInv s (s.writeFmt F r v) := by
  cases F <;> exact keepsInv_writeF r _

theorem keepsInv_accrue (fl : BitVec 5) : KeepsInv s (s.accrue fl) := keepsInv_of_fields rfl rfl rfl rfl rfl rfl

theorem keepsInv_drew : KeepsInv s s.drew := keepsInv_of_fields rfl rfl rfl rfl rfl rfl

theorem keepsInv_csrWrite (csr : CsrAddr) (v : Word) : KeepsInv s (s.csrWrite csr v) :=
  keepsInv_of_fields (s.csrWrite_params csr v) (s.csrWrite_pc csr v) (s.csrWrite_x csr v) (s.csrWrite_mem csr v)
    (s.csrWrite_stale csr v) (s.csrWrite_res csr v)

theorem keepsInv_afterFetch : KeepsInv s s.afterFetch := by
  unfold State.afterFetch
  split
  · exact keepsInv_drew
  · exact .refl s

/-! ### pc (R564 item 2) -/

theorem narrow_lt (xl : XLen) (v : Word) : (narrow xl v).toNat < 2 ^ xl.bits := by
  rw [narrow_toNat]
  exact Nat.mod_lt _ (Nat.two_pow_pos _)

/-- 2^XLEN is a multiple of 4. -/
theorem narrow_toNat_mod_four (xl : XLen) (v : Word) : (narrow xl v).toNat % 4 = v.toNat % 4 := by
  rw [narrow_toNat]
  exact Nat.mod_mod_of_dvd _ (by cases xl <;> decide)

theorem keepsInv_setPc (ha : s.Inv → a.toNat % 4 = 0) : KeepsInv s (s.setPc a) := fun h =>
  ⟨{ h with
      pcAligned := (narrow_toNat_mod_four s.xlen a).trans (ha h)
      pcWidth := narrow_lt s.xlen a }, rfl⟩

theorem State.Inv.nextPc_aligned (h : s.Inv) : s.nextPc.toNat % 4 = 0 := by
  have hpc : s.getPc.toNat % 4 = 0 := (narrow_toNat_mod_four s.xlen s.pc).trans h.pcAligned
  have hsum : (s.getPc + 4).toNat = (s.getPc.toNat + 4) % 2 ^ 64 := BitVec.toNat_add ..
  rw [State.nextPc, narrow_toNat_mod_four, hsum]
  omega

theorem keepsInv_advance : KeepsInv s s.advance := keepsInv_setPc State.Inv.nextPc_aligned

/-! ### The x registers (R564 item 3) -/

theorem keepsInv_writeX (r : XReg) (v : Word) : KeepsInv s (s.writeX r v) := by
  intro h
  refine ⟨?_, s.writeX_params r v⟩
  by_cases hr : r = 0
  · rwa [hr, State.writeX, if_pos rfl]
  · have hindex : r.toNat ≠ 0 := fun hzero => hr (BitVec.eq_of_toNat_eq hzero)
    rw [State.writeX, if_neg hr]
    refine { h with xZero := ?_, xWidth := fun q => ?_ }
    · exact (Vector.getElem_set_ne r.isLt (by decide) hindex).trans h.xZero
    · change ((s.x.set r.toFin (narrow s.xlen v))[q.val]).toNat < 2 ^ s.xlen.bits
      rw [Vector.getElem_set]
      split
      · exact narrow_lt s.xlen v
      · exact h.xWidth q

/-! ### Memory and the bookkeeping of fetches (20_memory.md R71, R101) -/

theorem mem_insertCell {l : List Host.Cell} {q : Nat} {v : Byte} {c : Host.Cell} (h : c ∈ insertCell l q v) :
    c.1 = q ∨ c ∈ l := by
  induction l with
  | nil => exact .inl (congrArg Prod.fst (List.mem_singleton.mp h))
  | cons d l ih =>
    unfold insertCell at h
    split at h
    · rcases List.mem_cons.mp h with rfl | hrest
      · exact .inr List.mem_cons_self
      · exact (ih hrest).imp_right (List.mem_cons_of_mem d)
    · split at h
      · rcases List.mem_cons.mp h with rfl | hrest
        · exact .inl rfl
        · exact .inr (List.mem_cons_of_mem d hrest)
      · rcases List.mem_cons.mp h with rfl | hrest
        · exact .inl rfl
        · exact .inr hrest

/-- A write lists no other address than its own and those listed before. -/
theorem Memory.mem_cells_write {m : Memory} {q : Nat} {v : Byte} {c : Host.Cell} (h : c ∈ (m.write q v).cells) :
    c.1 = q ∨ c ∈ m.cells := by
  change c ∈ writeCells m.cells q v at h
  unfold writeCells at h
  split at h
  · exact .inr (List.mem_of_mem_filter h)
  · exact mem_insertCell h

theorem nodup_addStale {stale : List Host.Cell} (c : Host.Cell) (h : stale.Nodup) : (addStale stale c).Nodup := by
  unfold addStale
  split
  next => exact h
  next hnew => exact List.nodup_cons.mpr ⟨hnew, h⟩

theorem keepsInv_storeByte {q : Nat} (v : Byte) (hq : s.inRange q = true) : KeepsInv s (s.storeByte q v) := fun h =>
  ⟨{ h with
      memForm := s.mem.wf_write q v h.memForm
      memInside := fun c hc => by
        rcases Memory.mem_cells_write hc with rfl | hold
        · exact hq
        · exact h.memInside c hold
      staleInside := fun c hc => by
        rcases (s.mem_stale_storeByte q v c).mp hc with rfl | hold
        · exact hq
        · exact h.staleInside c hold
      staleForm := nodup_addStale _ h.staleForm }, rfl⟩

theorem State.inRange_congr (h : u.params = s.params) (q : Nat) : u.inRange q = s.inRange q := by
  rw [State.inRange, State.inRange, h]

theorem keepsInv_writeLE (v : Word) {k : Nat} (hin : ∀ i < k, s.inRange (s.byteAddr a i) = true) :
    KeepsInv s (s.writeLE a v k) := by
  induction k with
  | zero => exact .refl s
  | succ k ih =>
    refine (ih fun i hi => hin i (by omega)).trans (keepsInv_storeByte _ ?_)
    exact (State.inRange_congr (s.writeLE_params a v k) _).trans (hin k (by omega))

/-- A store that passed its check stays within memory (20_memory.md R72). -/
theorem keepsInv_writeMem (v : Word) (hin : s.insideMemory a n.bytes = true) : KeepsInv s (s.writeMem a n v) :=
  keepsInv_writeLE v fun i hi => List.all_eq_true.mp hin i (List.mem_range.mpr hi)

theorem keepsInv_syncFetch : KeepsInv s s.syncFetch := fun h =>
  ⟨{ h with
      staleInside := fun _ hc => nomatch hc
      staleForm := List.nodup_nil }, rfl⟩

/-! ### The reservation (46_atomics.md R371 to R374) -/

theorem keepsInv_unreserve : KeepsInv s s.unreserve := fun h =>
  ⟨{ h with
      resSize := fun _ hr => nomatch hr
      resAligned := fun _ hr => nomatch hr
      resInside := fun _ hr => nomatch hr }, rfl⟩

theorem keepsInv_reserve (hsize : n = .word ∨ (n = .double ∧ s.xlen = .rv64)) (hal : aligned a n = true)
    (hin : s.insideMemory a n.bytes = true) : KeepsInv s (s.reserve a n) := fun h =>
  ⟨{ h with
      resSize := fun _ hr => Option.some.inj hr ▸ hsize
      resAligned := fun _ hr => Option.some.inj hr ▸ hal
      resInside := fun _ hr => Option.some.inj hr ▸ hin }, rfl⟩

end Keeps

end Sys2Proof.Machine
end

section
/-! PROOFS. The two answers of an instruction that has an encoding at this XLEN: a state that keeps the invariant, or a trap for one
of the exceptions its family is given (60_exceptions.md R560, R564, R582). -/

namespace Sys2Proof.Machine

open Sys2Proof

/-- A result in s: the run goes on in a state that keeps the invariant, or it ends with an exception of es. Never a refusal. -/
inductive Answers (s : State) (es : List Exception) : Result → Prop
  | next {t : State} (h : KeepsInv s t) : Answers s es (.next t)
  | trap {e : Exception} {info : Word} (h : e ∈ es) : Answers s es (.fault (.trap e info))

/-- The exceptions of an access of n bytes: an address is a multiple of 1 whatever it is (20_memory.md R75, R72). -/
def Access.exceptions (k : Access) : MemSize → List Exception
  | .byte => [k.accessFault]
  | .half | .word | .double => [k.misaligned, k.accessFault]

section Answers

variable {s t u : State} {i : Instr} {es : List Exception} {r : Result} {e : Exception} {info a : Word}

theorem Answers.keeps (h : Answers s es r) (hr : r = .next t) : KeepsInv s t := by
  cases h with
  | next h => cases hr; exact h
  | trap => cases hr

theorem Answers.listed (h : Answers s es r) (hr : r = .fault (.trap e info)) : e ∈ es := by
  cases h with
  | next => cases hr
  | trap h => cases hr; exact h

theorem Answers.ne_refused (h : Answers s es r) (q : Refusal) : r ≠ .refused q := by
  cases h <;> exact nofun

/-! ### The shared operations -/

theorem answers_retire (h : KeepsInv s u) : Answers s es u.retire := .next (h.trans keepsInv_advance)

theorem answers_illegal : Answers s [.illegalInstruction] (illegal i) := .trap List.mem_cons_self

/-- An instruction of XLEN = 64 with an encoding at this XLEN (30_encoding.md R131). -/
theorem xlen_of_rv64Only {xl : XLen} (hwf : i.wf xl = true) (honly : i.rv64Only = true) : xl = .rv64 := by
  cases xl with
  | rv32 => exact absurd hwf (Instr.not_wf_rv32 honly)
  | rv64 => rfl

theorem Answers.onlyRv64 (h : Answers s es r) (hwf : i.wf s.xlen = true) (honly : i.rv64Only = true := by rfl) :
    Answers s es (s.onlyRv64 i r) := by
  rw [State.onlyRv64, if_pos (xlen_of_rv64Only hwf honly)]
  exact h

theorem misaligned_mem_exceptions {k : Access} {n : MemSize} (h : aligned a n = false) : k.misaligned ∈ k.exceptions n := by
  cases n with
  | byte => cases h.symm.trans ((aligned_iff a .byte).mpr (Nat.mod_one _))
  | half | word | double => exact List.mem_cons_self

theorem accessFault_mem_exceptions (k : Access) (n : MemSize) : k.accessFault ∈ k.exceptions n := by
  cases n with
  | byte => exact List.mem_cons_self
  | half | word | double => exact List.mem_cons_of_mem _ List.mem_cons_self

theorem answers_access {k : Access} {n : MemSize} (hes : es = k.exceptions n)
    (h : aligned a n = true → s.insideMemory a n.bytes = true → Answers s es r) : Answers s es (s.access k a n r) := by
  subst hes
  rcases s.access_cases k a n r with ⟨hmis, hr⟩ | ⟨-, -, hr⟩ | ⟨hal, hin, hr⟩ <;> rw [hr]
  · exact .trap (misaligned_mem_exceptions hmis)
  · exact .trap (accessFault_mem_exceptions k n)
  · exact h hal hin

theorem answers_rounding {rm : RmField} {k : RMode → Result} (h : ∀ m, Answers s [.illegalInstruction] (k m)) :
    Answers s [.illegalInstruction] (s.rounding i rm k) := by
  rcases s.rounding_cases i rm k with ⟨m, -, hr⟩ | ⟨-, hr⟩ <;> rw [hr]
  · exact h m
  · exact answers_illegal

/-! ### The shapes of the integer instructions -/

variable {rd rs1 rs2 : XReg} {imm : Imm12} {n : MemSize}

theorem answers_writeX {v : Word} : Answers s es (s.writeX rd v).retire := answers_retire (keepsInv_writeX rd v)

theorem answers_opRegReg {op : Word → Word → Word} : Answers s es (s.opRegReg op rd rs1 rs2) := answers_writeX

theorem answers_opRegConst {op : Word → Word → Word} {c : Word} : Answers s es (s.opRegConst op rd rs1 c) := answers_writeX

theorem answers_opWord {op : BitVec 32 → BitVec 32 → BitVec 32} (hwf : i.wf s.xlen = true)
    (honly : i.rv64Only = true := by rfl) : Answers s es (s.opWord i op rd rs1 rs2) :=
  answers_opRegReg.onlyRv64 hwf honly

theorem answers_opWordShift {op : BitVec 32 → Nat → BitVec 32} {shamt : Shamt5} (hwf : i.wf s.xlen = true)
    (honly : i.rv64Only = true := by rfl) : Answers s es (s.opWordShift i op rd rs1 shamt) :=
  answers_writeX.onlyRv64 hwf honly

/-- A shift amount with an encoding is below XLEN (30_encoding.md R127). -/
theorem answers_opShift {op : Word → Nat → Word} {shamt : Shamt6} (hwf : i.wf s.xlen = true)
    (hshamt : i.wfShamt s.xlen = decide (shamt.toNat < s.xlen.bits) := by rfl) :
    Answers s es (s.opShift i op rd rs1 shamt) := by
  obtain ⟨-, -, hlt⟩ := Instr.wf_iff.mp hwf
  rw [State.opShift, if_pos (of_decide_eq_true (hshamt.symm.trans hlt))]
  exact answers_writeX

theorem answers_jumpTo (h : KeepsInv s u) : Answers s [.instructionAddressMisaligned] (u.jumpTo a) := by
  rcases u.jumpTo_cases a with ⟨hal, hr⟩ | ⟨-, hr⟩ <;> rw [hr]
  · exact .next (h.trans (keepsInv_setPc fun _ => hal))
  · exact .trap List.mem_cons_self

theorem answers_branch {taken : Bool} {off : Off13} : Answers s [.instructionAddressMisaligned] (s.branch taken off) := by
  cases taken
  · exact answers_retire (.refl s)
  · exact answers_jumpTo (.refl s)

/-! ### The shapes of the instructions that access memory -/

theorem answers_loadX {ext : Word → Word} (hes : es = Access.load.exceptions n := by rfl) :
    Answers s es (s.loadX n ext rd rs1 imm) :=
  answers_access hes fun _ _ => answers_writeX

theorem answers_store {v : Word} (hes : es = Access.storeAMO.exceptions n := by rfl) :
    Answers s es (s.store n v rs1 imm) :=
  answers_access hes fun _ hin => answers_retire (keepsInv_writeMem v hin)

theorem answers_loadReserved (hsize : n = .word ∨ (n = .double ∧ s.xlen = .rv64))
    (hes : es = Access.load.exceptions n := by rfl) : Answers s es (s.loadReserved n rd rs1) :=
  answers_access hes fun hal hin => answers_retire ((keepsInv_reserve hsize hal hin).trans (keepsInv_writeX rd _))

theorem answers_storeConditional (hes : es = Access.storeAMO.exceptions n := by rfl) :
    Answers s es (s.storeConditional n rd rs1 rs2) := by
  refine answers_access hes fun _ hin => ?_
  have hfails {u : State} (h : KeepsInv s u) : KeepsInv s (u.unreserve.writeX rd 1) :=
    (h.trans keepsInv_unreserve).trans (keepsInv_writeX rd 1)
  split
  · split
    · have hstore : KeepsInv s (s.drew.writeMem (s.readX rs1) n (s.readX rs2)) :=
        keepsInv_drew.trans (keepsInv_writeMem _ hin)
      exact answers_retire ((hstore.trans keepsInv_unreserve).trans (keepsInv_writeX rd 0))
    · exact answers_retire (hfails keepsInv_drew)
  · exact answers_retire (hfails (.refl s))

theorem answers_amo {op : BitVec (8 * n.bytes) → BitVec (8 * n.bytes) → BitVec (8 * n.bytes)}
    (hes : es = Access.storeAMO.exceptions n := by rfl) : Answers s es (s.amo n op rd rs1 rs2) :=
  answers_access hes fun _ hin => answers_retire ((keepsInv_writeMem _ hin).trans (keepsInv_writeX rd _))

/-! ### The CSR instructions -/

theorem answers_csrAccess {csr : CsrAddr} {writes : Bool} {new : Word → Word} :
    Answers s [.illegalInstruction] (s.csrAccess i csr rd writes new) := by
  rcases s.csrAccess_cases i csr rd writes new with ⟨-, hr⟩ | ⟨-, hr⟩ <;> rw [hr]
  · have hwrite : KeepsInv s (if writes then s.csrWrite csr (new (s.csrRead csr)) else s) := by
      cases writes
      · exact .refl s
      · exact keepsInv_csrWrite csr _
    exact answers_retire (hwrite.trans (keepsInv_writeX rd _))
  · exact answers_illegal

/-! ### The shapes of the floating-point instructions -/

variable {F : Fmt} {fd fs1 fs2 fs3 : FReg} {rm : RmField}

theorem answers_writeF {v : BitVec 64} : Answers s es (s.writeF fd v).retire := answers_retire (keepsInv_writeF fd v)

theorem answers_loadF {make : Word → BitVec 64} (hes : es = Access.load.exceptions n := by rfl) :
    Answers s es (s.loadF n make fd rs1 imm) :=
  answers_access hes fun _ _ => answers_writeF

theorem answers_finishF {r : Flagged F} : Answers s es (s.finishF F fd r) :=
  answers_retire ((keepsInv_writeFmt F fd r.1).trans (keepsInv_accrue r.2))

theorem answers_finishX {v : Word} {fl : BitVec 5} : Answers s es (s.finishX rd v fl) :=
  answers_retire ((keepsInv_writeX rd v).trans (keepsInv_accrue fl))

theorem answers_fpBinary {op : RMode → Pattern F → Pattern F → Flagged F} :
    Answers s [.illegalInstruction] (s.fpBinary F i op fd fs1 fs2 rm) :=
  answers_rounding fun _ => answers_finishF

theorem answers_fpUnary {G : Fmt} {op : RMode → Pattern F → Flagged G} :
    Answers s [.illegalInstruction] (s.fpUnary F G i op fd fs1 rm) :=
  answers_rounding fun _ => answers_finishF

theorem answers_fpFused {negProduct negAddend : Bool} :
    Answers s [.illegalInstruction] (s.fpFused F i negProduct negAddend fd fs1 fs2 fs3 rm) :=
  answers_rounding fun _ => answers_finishF

theorem answers_fpPick {op : Pattern F → Pattern F → Flagged F} : Answers s es (s.fpPick F op fd fs1 fs2) := answers_finishF

theorem answers_fpInject {sign : Bool → Bool → Bool} : Answers s es (s.fpInject F sign fd fs1 fs2) :=
  answers_retire (keepsInv_writeFmt F fd _)

theorem answers_fpCompare {op : Pattern F → Pattern F → Bool × BitVec 5} : Answers s es (s.fpCompare F op rd fs1 fs2) :=
  answers_finishX

theorem answers_fpToWord {sgn : Bool} : Answers s [.illegalInstruction] (s.fpToWord F i sgn rd fs1 rm) :=
  answers_rounding fun _ => answers_finishX

theorem answers_fpToLong {sgn : Bool} (hwf : i.wf s.xlen = true) (honly : i.rv64Only = true := by rfl) :
    Answers s [.illegalInstruction] (s.fpToLong F i sgn rd fs1 rm) :=
  (answers_rounding fun _ => answers_finishX).onlyRv64 hwf honly

theorem answers_fpFromInt {k : Int} : Answers s [.illegalInstruction] (s.fpFromInt F i k fd rm) :=
  answers_rounding fun _ => answers_finishF

end Answers

/-! ### Every instruction -/

/-- Each instruction is one of the shapes above, whose exceptions are those of its family (60_exceptions.md R582). -/
theorem exec_answers {s : State} {i : Instr} (hwf : i.wf s.xlen = true) : Answers s (exceptionsOf i) (exec i s) := by
  unfold exec
  cases i with
  | addi | slti | sltiu | xori | ori | andi => exact answers_opRegConst
  | addiw => exact .onlyRv64 answers_opRegConst hwf
  | add | sub | slt | sltu | sll | xor | srl | sra | or | and | mul | mulh | mulhsu | mulhu | div | divu | rem | remu =>
    exact answers_opRegReg
  | addw | subw | sllw | srlw | sraw | mulw | divw | divuw | remw | remuw => exact answers_opWord hwf
  | slli | srli | srai => exact answers_opShift hwf
  | slliw | srliw | sraiw => exact answers_opWordShift hwf
  | lui | auipc | fmvXW | fclassS | fclassD => exact answers_writeX
  | fmvXD => exact .onlyRv64 answers_writeX hwf
  | fmvWX => exact answers_writeF
  | fmvDX => exact .onlyRv64 answers_writeF hwf
  | jal | jalr => exact answers_jumpTo (keepsInv_writeX _ _)
  | beq | bne | blt | bge | bltu | bgeu => exact answers_branch
  | fence => exact answers_retire (.refl s)
  | fenceI => exact answers_retire keepsInv_syncFetch
  | ecall | ebreak => exact .trap List.mem_cons_self
  | lb | lh | lw | lbu | lhu => exact answers_loadX
  | lwu | ld => exact .onlyRv64 answers_loadX hwf
  | sb | sh | sw | fsw | fsd => exact answers_store
  | sd => exact .onlyRv64 answers_store hwf
  | flw | fld => exact answers_loadF
  | lrW => exact answers_loadReserved (.inl rfl)
  | lrD => exact .onlyRv64 (answers_loadReserved (.inr ⟨rfl, xlen_of_rv64Only hwf rfl⟩)) hwf
  | scW => exact answers_storeConditional
  | scD => exact .onlyRv64 answers_storeConditional hwf
  | amoswapW | amoaddW | amoxorW | amoandW | amoorW | amominW | amomaxW | amominuW | amomaxuW => exact answers_amo
  | amoswapD | amoaddD | amoxorD | amoandD | amoorD | amominD | amomaxD | amominuD | amomaxuD =>
    exact .onlyRv64 answers_amo hwf
  | faddS | fsubS | fmulS | fdivS | faddD | fsubD | fmulD | fdivD => exact answers_fpBinary
  | fsqrtS | fsqrtD | fcvtSD | fcvtDS => exact answers_fpUnary
  | fmaddS | fmsubS | fnmsubS | fnmaddS | fmaddD | fmsubD | fnmsubD | fnmaddD => exact answers_fpFused
  | fminS | fmaxS | fminD | fmaxD => exact answers_fpPick
  | fsgnjS | fsgnjnS | fsgnjxS | fsgnjD | fsgnjnD | fsgnjxD => exact answers_fpInject
  | feqS | fltS | fleS | feqD | fltD | fleD => exact answers_fpCompare
  | fcvtWS | fcvtWuS | fcvtWD | fcvtWuD => exact answers_fpToWord
  | fcvtLS | fcvtLuS | fcvtLD | fcvtLuD => exact answers_fpToLong hwf
  | fcvtSW | fcvtSWu | fcvtDW | fcvtDWu => exact answers_fpFromInt
  | fcvtSL | fcvtSLu | fcvtDL | fcvtDLu => exact .onlyRv64 answers_fpFromInt hwf
  | csrrw | csrrs | csrrc | csrrwi | csrrsi | csrrci => exact answers_csrAccess

/-! ### The step -/

/-- A step traps, or it runs an instruction that has an encoding at this XLEN (60_exceptions.md R563). -/
theorem step_cases (s : State) : (∃ f, step s = .fault f) ∨
    ∃ i : Instr, i.wf s.afterFetch.xlen = true ∧ step s = exec i s.afterFetch := by
  rcases s.fetchDecode_cases fun i => exec i s.afterFetch with ⟨-, hr⟩ | ⟨-, -, hr⟩ | ⟨-, i, hdec, hr⟩
  · exact .inl ⟨_, hr⟩
  · exact .inl ⟨_, hr⟩
  · have hxlen : s.afterFetch.xlen = s.xlen := by rw [s.afterFetch_eq]; rfl
    obtain ⟨-, hwf⟩ := encode_of_decode hdec
    exact .inr ⟨i, hxlen ▸ hwf, hr⟩

/-- Settles O55: the fetch keeps the invariant, and so does every instruction with an encoding. -/
theorem stepKeepsTheInvariant : Obligations.StepKeepsTheInvariant := by
  intro s t hinv ht
  rcases step_cases s with ⟨f, hf⟩ | ⟨i, hwf, hrun⟩
  · cases hf.symm.trans ht
  · exact (keepsInv_afterFetch.trans ((exec_answers hwf).keeps (hrun.symm.trans ht))) hinv

/-- Settles O54: the answers of an instruction have no refusal, and a step that does not trap is an instruction. -/
theorem onlyListedExceptions : Obligations.OnlyListedExceptions := by
  refine ⟨fun i s hwf e info h => (exec_answers hwf).listed h, fun s q => ?_⟩
  rcases step_cases s with ⟨f, hf⟩ | ⟨i, hwf, hrun⟩
  · rw [hf]
    exact nofun
  · rw [hrun]
    exact (exec_answers hwf).ne_refused q

end Sys2Proof.Machine
end
